-- ==== Sys2Proof/Word.lean ====
section
/-! DEFINITION. The two word types of the machine (00_scope.md section 4): a byte is 8 bits, a word is 16 bits. -/

namespace Sys2Proof

/-- A byte: register contents, memory contents, operand bytes. -/
abbrev Byte := BitVec 8

/-- A word: the program counter and every address while it is computed. -/
abbrev Word := BitVec 16

end Sys2Proof
end

