-- ==== Sys2Proof/Machine/Bits.lean ====
section
/-! DEFINITION. Byte order, extension and page helpers of 00_scope.md section 4. -/

namespace Sys2Proof.Machine

/-- `{hi, lo}`: the word whose high byte is `hi` and whose low byte is `lo` (00_scope.md section 4). -/
def joinBytes (hi lo : Byte) : Word := hi ++ lo

/-- `w[15:8]`, the page of an address (R125). -/
def highByte (w : Word) : Byte := w.extractLsb' 8 8

/-- `w[7:0]`. -/
def lowByte (w : Word) : Byte := w.extractLsb' 0 8

/-- `zext_16(b)`. -/
def zext (b : Byte) : Word := b.setWidth 16

/-- `sext_16(b)`: the displacement read as a two's-complement number (R73 (c)). -/
def sext (b : Byte) : Word := b.signExtend 16

/-- The two addresses lie on different pages (R125). -/
def pageDiffers (v w : Word) : Bool := highByte v != highByte w

end Sys2Proof.Machine
end

