-- ==== Sys2Proof/Config.lean ====
section
/-! DEFINITION. The configuration record of R3 (00_scope.md section 3): what is fixed for a machine.
It is carried in State as `cfg`, so that a statement for every state is one for every configuration. -/

namespace Sys2Proof

/-- VARIANT: selects the opcode table, the indirect-JMP pointer rule and cycle details (R3, D1). -/
inductive Variant where
  | nmos6502
  | cmos65c02
  deriving DecidableEq, Repr

/-- ILLEGAL_POLICY: what an opcode byte with no table entry does (R3, D4). -/
inductive IllegalPolicy where
  | asBRK
  | refuse
  deriving DecidableEq, Repr

/-- The parameter `decimalFlags` (R3, D13) as plain data: the default of R176 and R178, or some other
function, of which nothing is known but an index. -/
inductive DecimalFlags where
  | byRule
  | other (k : Nat)
  deriving DecidableEq, Repr

/-- The three flags the parameter `decimalFlags` answers. -/
structure NVZ where
  n : Bool
  v : Bool
  z : Bool
  deriving DecidableEq, Repr, Inhabited

/-- FREE VALUE (93_implementation_defined.md U3): the function that `decimalFlags := other k` stands
for. It has no body: nothing is provable of the N, V and Z it gives. -/
opaque Config.decimalFlagsOther
    (k : Nat) (variant : Variant) (isSub : Bool) (a m : Byte) (cin : Bool) (result : Byte) : NVZ

/-- The configuration record of R3, one field per parameter. -/
structure Config where
  variant       : Variant
  resetA        : Byte
  resetY        : Byte
  resetS        : Byte
  resetP        : Byte
  illegalPolicy : IllegalPolicy
  intPushedB    : Bool
  penaltyCycles : Bool
  decimalFlags  : DecimalFlags
  deriving DecidableEq, Repr

/-- Every parameter at its default of R3, for the given VARIANT, which has none. -/
def Config.standard (variant : Variant) : Config where
  variant       := variant
  resetA        := 0x00
  resetY        := 0x00
  resetS        := 0xFF
  resetP        := 0x24
  illegalPolicy := .asBRK
  intPushedB    := false
  penaltyCycles := true
  decimalFlags  := .byRule

end Sys2Proof
end

