-- ==== Sys2Proof/Syntax.lean ====
section
/-! DEFINITION. The syntax of instructions: addressing modes with their operand bytes (R71, R73), and one
constructor of `Instr` per row of spec/opcode_table.json (R76). A constructor is named by its mnemonic and
its mode: Acc, Imm, Zp, ZpX, ZpY, Abs, AbsX, AbsY, XInd = (zp,X), IndY = (zp),Y, ZpInd = (zp), Ind = (abs),
AbsXInd = (abs,X); no suffix where the mnemonic has one mode only. -/

namespace Sys2Proof

/-- The 16 addressing-mode tags of R71. -/
inductive Mode where
  | implied
  | accumulator
  | immediate
  | zeroPage
  | zeroPageX
  | zeroPageY
  | absolute
  | absoluteX
  | absoluteY
  | xIndexed
  | indexedY
  | zeroPageIndirect
  | relative
  | zeroPageRelative
  | indirect
  | absoluteXIndirect
  deriving DecidableEq, Repr

/-- The nine modes that address a data byte, with their operand (R112 to R120). -/
inductive MemOperand where
  | zp (z : Byte)
  | zpX (z : Byte)
  | zpY (z : Byte)
  | abs (w : Word)
  | absX (w : Word)
  | absY (w : Word)
  | xInd (z : Byte)
  | indY (z : Byte)
  | zpInd (z : Byte)
  deriving DecidableEq, Repr

/-- An operand: one of the 16 modes of R71 with its operand bytes assembled as R73 says. -/
inductive Operand where
  | implied
  | accumulator
  | immediate (v : Byte)
  | mem (m : MemOperand)
  | relative (d : Byte)
  | zeroPageRelative (z d : Byte)
  | indirect (w : Word)
  | absoluteXIndirect (w : Word)
  deriving DecidableEq, Repr

/-- Where a reading instruction takes its value from: Immediate or a memory mode (R133). -/
inductive Source where
  | imm (v : Byte)
  | mem (m : MemOperand)
  deriving DecidableEq, Repr

/-- Where a read-modify-write instruction works: Accumulator or a memory mode (R208). -/
inductive Place where
  | acc
  | mem (m : MemOperand)
  deriving DecidableEq, Repr

/-- The instructions, one constructor per row of the opcode table. -/
inductive Instr where
  -- load, store and transfer instructions (41_load_store_transfer.md)
  | ldaXInd (z : Byte)
  | ldaZp (z : Byte)
  | ldaImm (v : Byte)
  | ldaAbs (w : Word)
  | ldaIndY (z : Byte)
  | ldaZpInd (z : Byte)
  | ldaZpX (z : Byte)
  | ldaAbsY (w : Word)
  | ldaAbsX (w : Word)
  | ldxImm (v : Byte)
  | ldxZp (z : Byte)
  | ldxAbs (w : Word)
  | ldxZpY (z : Byte)
  | ldxAbsY (w : Word)
  | ldyImm (v : Byte)
  | ldyZp (z : Byte)
  | ldyAbs (w : Word)
  | ldyZpX (z : Byte)
  | ldyAbsX (w : Word)
  | staXInd (z : Byte)
  | staZp (z : Byte)
  | staAbs (w : Word)
  | staIndY (z : Byte)
  | staZpInd (z : Byte)
  | staZpX (z : Byte)
  | staAbsY (w : Word)
  | staAbsX (w : Word)
  | stxZp (z : Byte)
  | stxAbs (w : Word)
  | stxZpY (z : Byte)
  | styZp (z : Byte)
  | styAbs (w : Word)
  | styZpX (z : Byte)
  | stzZp (z : Byte)
  | stzZpX (z : Byte)
  | stzAbs (w : Word)
  | stzAbsX (w : Word)
  | tax
  | tay
  | txa
  | tya
  | tsx
  | txs
  -- arithmetic, compare, increment and decrement instructions (42_arithmetic.md)
  | adcXInd (z : Byte)
  | adcZp (z : Byte)
  | adcImm (v : Byte)
  | adcAbs (w : Word)
  | adcIndY (z : Byte)
  | adcZpInd (z : Byte)
  | adcZpX (z : Byte)
  | adcAbsY (w : Word)
  | adcAbsX (w : Word)
  | sbcXInd (z : Byte)
  | sbcZp (z : Byte)
  | sbcImm (v : Byte)
  | sbcAbs (w : Word)
  | sbcIndY (z : Byte)
  | sbcZpInd (z : Byte)
  | sbcZpX (z : Byte)
  | sbcAbsY (w : Word)
  | sbcAbsX (w : Word)
  | cmpXInd (z : Byte)
  | cmpZp (z : Byte)
  | cmpImm (v : Byte)
  | cmpAbs (w : Word)
  | cmpIndY (z : Byte)
  | cmpZpInd (z : Byte)
  | cmpZpX (z : Byte)
  | cmpAbsY (w : Word)
  | cmpAbsX (w : Word)
  | cpxImm (v : Byte)
  | cpxZp (z : Byte)
  | cpxAbs (w : Word)
  | cpyImm (v : Byte)
  | cpyZp (z : Byte)
  | cpyAbs (w : Word)
  | incAcc
  | incZp (z : Byte)
  | incAbs (w : Word)
  | incZpX (z : Byte)
  | incAbsX (w : Word)
  | decAcc
  | decZp (z : Byte)
  | decAbs (w : Word)
  | decZpX (z : Byte)
  | decAbsX (w : Word)
  | inx
  | iny
  | dex
  | dey
  -- logic, bit-test, shift, rotate and bit-manipulation instructions (43_logic_shift_bit.md)
  | andXInd (z : Byte)
  | andZp (z : Byte)
  | andImm (v : Byte)
  | andAbs (w : Word)
  | andIndY (z : Byte)
  | andZpInd (z : Byte)
  | andZpX (z : Byte)
  | andAbsY (w : Word)
  | andAbsX (w : Word)
  | oraXInd (z : Byte)
  | oraZp (z : Byte)
  | oraImm (v : Byte)
  | oraAbs (w : Word)
  | oraIndY (z : Byte)
  | oraZpInd (z : Byte)
  | oraZpX (z : Byte)
  | oraAbsY (w : Word)
  | oraAbsX (w : Word)
  | eorXInd (z : Byte)
  | eorZp (z : Byte)
  | eorImm (v : Byte)
  | eorAbs (w : Word)
  | eorIndY (z : Byte)
  | eorZpInd (z : Byte)
  | eorZpX (z : Byte)
  | eorAbsY (w : Word)
  | eorAbsX (w : Word)
  | bitZp (z : Byte)
  | bitAbs (w : Word)
  | bitZpX (z : Byte)
  | bitAbsX (w : Word)
  | bitImm (v : Byte)
  | aslZp (z : Byte)
  | aslAcc
  | aslAbs (w : Word)
  | aslZpX (z : Byte)
  | aslAbsX (w : Word)
  | lsrZp (z : Byte)
  | lsrAcc
  | lsrAbs (w : Word)
  | lsrZpX (z : Byte)
  | lsrAbsX (w : Word)
  | rolZp (z : Byte)
  | rolAcc
  | rolAbs (w : Word)
  | rolZpX (z : Byte)
  | rolAbsX (w : Word)
  | rorZp (z : Byte)
  | rorAcc
  | rorAbs (w : Word)
  | rorZpX (z : Byte)
  | rorAbsX (w : Word)
  | tsbZp (z : Byte)
  | tsbAbs (w : Word)
  | trbZp (z : Byte)
  | trbAbs (w : Word)
  | rmb0 (z : Byte)
  | rmb1 (z : Byte)
  | rmb2 (z : Byte)
  | rmb3 (z : Byte)
  | rmb4 (z : Byte)
  | rmb5 (z : Byte)
  | rmb6 (z : Byte)
  | rmb7 (z : Byte)
  | smb0 (z : Byte)
  | smb1 (z : Byte)
  | smb2 (z : Byte)
  | smb3 (z : Byte)
  | smb4 (z : Byte)
  | smb5 (z : Byte)
  | smb6 (z : Byte)
  | smb7 (z : Byte)
  -- branches, jumps, call and return (44_branch_jump.md)
  | bpl (d : Byte)
  | bmi (d : Byte)
  | bvc (d : Byte)
  | bvs (d : Byte)
  | bcc (d : Byte)
  | bcs (d : Byte)
  | bne (d : Byte)
  | beq (d : Byte)
  | bra (d : Byte)
  | bbr0 (z : Byte) (d : Byte)
  | bbr1 (z : Byte) (d : Byte)
  | bbr2 (z : Byte) (d : Byte)
  | bbr3 (z : Byte) (d : Byte)
  | bbr4 (z : Byte) (d : Byte)
  | bbr5 (z : Byte) (d : Byte)
  | bbr6 (z : Byte) (d : Byte)
  | bbr7 (z : Byte) (d : Byte)
  | bbs0 (z : Byte) (d : Byte)
  | bbs1 (z : Byte) (d : Byte)
  | bbs2 (z : Byte) (d : Byte)
  | bbs3 (z : Byte) (d : Byte)
  | bbs4 (z : Byte) (d : Byte)
  | bbs5 (z : Byte) (d : Byte)
  | bbs6 (z : Byte) (d : Byte)
  | bbs7 (z : Byte) (d : Byte)
  | jmpAbs (w : Word)
  | jmpInd (w : Word)
  | jmpAbsXInd (w : Word)
  | jsr (w : Word)
  | rts
  -- stack, flag, no-operation and system instructions (45_stack_flags_system.md)
  | pha
  | pla
  | php
  | plp
  | phx
  | plx
  | phy
  | ply
  | clc
  | sec
  | cli
  | sei
  | clv
  | cld
  | sed
  | nop
  | brk
  | rti
  -- the fallback entry of every illegal opcode byte, one per variant (R77, R294); `op` is the byte
  | illNmos (op : Byte)
  | illCmos (op : Byte)
  deriving DecidableEq, Repr

end Sys2Proof
end

