-- ==== Sys2Proof/Machine/OpcodeTable.lean ====
section
/-! DEFINITION. The opcode table of R76 as one row per constructor: opcode byte, mode and operand, base
cycles per variant and the `+p` mark, mnemonic (R74); and the illegal bytes of R77. -/

namespace Sys2Proof

/-- Base cycles of a table cell, and whether it carries the `+p` mark (R76). -/
structure Cost where
  base      : Nat
  pageCross : Bool
  deriving DecidableEq, Repr

/-- A cell without `+p`. -/
def Cost.fixed (n : Nat) : Cost := ⟨n, false⟩

/-- A cell with `+p`. -/
def Cost.plusP (n : Nat) : Cost := ⟨n, true⟩

/-- In which variants a row stands, with its cost there (R76). -/
inductive Timing where
  | both (c : Cost)
  | split (nmos cmos : Cost)
  | cmosOnly (c : Cost)
  | nmosOnly (c : Cost)
  deriving DecidableEq, Repr

/-- The row stands in the table of the variant. -/
def Timing.legalIn : Timing → Variant → Bool
  | .both _, _ => true
  | .split _ _, _ => true
  | .cmosOnly _, v => v == .cmos65c02
  | .nmosOnly _, v => v == .nmos6502

/-- The row's cost in the variant (its only cost, for a row of one variant). -/
def Timing.cost : Timing → Variant → Cost
  | .both c, _ => c
  | .split n _, .nmos6502 => n
  | .split _ c, .cmos65c02 => c
  | .cmosOnly c, _ => c
  | .nmosOnly c, _ => c

/-- A row of the opcode table: the Instruction record of R74 with its opcode byte and operand. -/
structure OpRow where
  mnemonic : String
  opcode   : Byte
  operand  : Operand
  timing   : Timing
  deriving DecidableEq, Repr

/-- The opcode table of R76, row by row. -/
def Instr.row : Instr → OpRow
  -- load, store and transfer instructions (41_load_store_transfer.md)
  | .ldaXInd z => ⟨"LDA", 0xA1, (.mem (.xInd z)), (.both (.fixed 6))⟩
  | .ldaZp z => ⟨"LDA", 0xA5, (.mem (.zp z)), (.both (.fixed 3))⟩
  | .ldaImm v => ⟨"LDA", 0xA9, (.immediate v), (.both (.fixed 2))⟩
  | .ldaAbs w => ⟨"LDA", 0xAD, (.mem (.abs w)), (.both (.fixed 4))⟩
  | .ldaIndY z => ⟨"LDA", 0xB1, (.mem (.indY z)), (.both (.plusP 5))⟩
  | .ldaZpInd z => ⟨"LDA", 0xB2, (.mem (.zpInd z)), (.cmosOnly (.fixed 5))⟩
  | .ldaZpX z => ⟨"LDA", 0xB5, (.mem (.zpX z)), (.both (.fixed 4))⟩
  | .ldaAbsY w => ⟨"LDA", 0xB9, (.mem (.absY w)), (.both (.plusP 4))⟩
  | .ldaAbsX w => ⟨"LDA", 0xBD, (.mem (.absX w)), (.both (.plusP 4))⟩
  | .ldxImm v => ⟨"LDX", 0xA2, (.immediate v), (.both (.fixed 2))⟩
  | .ldxZp z => ⟨"LDX", 0xA6, (.mem (.zp z)), (.both (.fixed 3))⟩
  | .ldxAbs w => ⟨"LDX", 0xAE, (.mem (.abs w)), (.both (.fixed 4))⟩
  | .ldxZpY z => ⟨"LDX", 0xB6, (.mem (.zpY z)), (.both (.fixed 4))⟩
  | .ldxAbsY w => ⟨"LDX", 0xBE, (.mem (.absY w)), (.both (.plusP 4))⟩
  | .ldyImm v => ⟨"LDY", 0xA0, (.immediate v), (.both (.fixed 2))⟩
  | .ldyZp z => ⟨"LDY", 0xA4, (.mem (.zp z)), (.both (.fixed 3))⟩
  | .ldyAbs w => ⟨"LDY", 0xAC, (.mem (.abs w)), (.both (.fixed 4))⟩
  | .ldyZpX z => ⟨"LDY", 0xB4, (.mem (.zpX z)), (.both (.fixed 4))⟩
  | .ldyAbsX w => ⟨"LDY", 0xBC, (.mem (.absX w)), (.both (.plusP 4))⟩
  | .staXInd z => ⟨"STA", 0x81, (.mem (.xInd z)), (.both (.fixed 6))⟩
  | .staZp z => ⟨"STA", 0x85, (.mem (.zp z)), (.both (.fixed 3))⟩
  | .staAbs w => ⟨"STA", 0x8D, (.mem (.abs w)), (.both (.fixed 4))⟩
  | .staIndY z => ⟨"STA", 0x91, (.mem (.indY z)), (.both (.fixed 6))⟩
  | .staZpInd z => ⟨"STA", 0x92, (.mem (.zpInd z)), (.cmosOnly (.fixed 5))⟩
  | .staZpX z => ⟨"STA", 0x95, (.mem (.zpX z)), (.both (.fixed 4))⟩
  | .staAbsY w => ⟨"STA", 0x99, (.mem (.absY w)), (.both (.fixed 5))⟩
  | .staAbsX w => ⟨"STA", 0x9D, (.mem (.absX w)), (.both (.fixed 5))⟩
  | .stxZp z => ⟨"STX", 0x86, (.mem (.zp z)), (.both (.fixed 3))⟩
  | .stxAbs w => ⟨"STX", 0x8E, (.mem (.abs w)), (.both (.fixed 4))⟩
  | .stxZpY z => ⟨"STX", 0x96, (.mem (.zpY z)), (.both (.fixed 4))⟩
  | .styZp z => ⟨"STY", 0x84, (.mem (.zp z)), (.both (.fixed 3))⟩
  | .styAbs w => ⟨"STY", 0x8C, (.mem (.abs w)), (.both (.fixed 4))⟩
  | .styZpX z => ⟨"STY", 0x94, (.mem (.zpX z)), (.both (.fixed 4))⟩
  | .stzZp z => ⟨"STZ", 0x64, (.mem (.zp z)), (.cmosOnly (.fixed 3))⟩
  | .stzZpX z => ⟨"STZ", 0x74, (.mem (.zpX z)), (.cmosOnly (.fixed 4))⟩
  | .stzAbs w => ⟨"STZ", 0x9C, (.mem (.abs w)), (.cmosOnly (.fixed 4))⟩
  | .stzAbsX w => ⟨"STZ", 0x9E, (.mem (.absX w)), (.cmosOnly (.fixed 5))⟩
  | .tax => ⟨"TAX", 0xAA, .implied, (.both (.fixed 2))⟩
  | .tay => ⟨"TAY", 0xA8, .implied, (.both (.fixed 2))⟩
  | .txa => ⟨"TXA", 0x8A, .implied, (.both (.fixed 2))⟩
  | .tya => ⟨"TYA", 0x98, .implied, (.both (.fixed 2))⟩
  | .tsx => ⟨"TSX", 0xBA, .implied, (.both (.fixed 2))⟩
  | .txs => ⟨"TXS", 0x9A, .implied, (.both (.fixed 2))⟩
  -- arithmetic, compare, increment and decrement instructions (42_arithmetic.md)
  | .adcXInd z => ⟨"ADC", 0x61, (.mem (.xInd z)), (.both (.fixed 6))⟩
  | .adcZp z => ⟨"ADC", 0x65, (.mem (.zp z)), (.both (.fixed 3))⟩
  | .adcImm v => ⟨"ADC", 0x69, (.immediate v), (.both (.fixed 2))⟩
  | .adcAbs w => ⟨"ADC", 0x6D, (.mem (.abs w)), (.both (.fixed 4))⟩
  | .adcIndY z => ⟨"ADC", 0x71, (.mem (.indY z)), (.both (.plusP 5))⟩
  | .adcZpInd z => ⟨"ADC", 0x72, (.mem (.zpInd z)), (.cmosOnly (.fixed 5))⟩
  | .adcZpX z => ⟨"ADC", 0x75, (.mem (.zpX z)), (.both (.fixed 4))⟩
  | .adcAbsY w => ⟨"ADC", 0x79, (.mem (.absY w)), (.both (.plusP 4))⟩
  | .adcAbsX w => ⟨"ADC", 0x7D, (.mem (.absX w)), (.both (.plusP 4))⟩
  | .sbcXInd z => ⟨"SBC", 0xE1, (.mem (.xInd z)), (.both (.fixed 6))⟩
  | .sbcZp z => ⟨"SBC", 0xE5, (.mem (.zp z)), (.both (.fixed 3))⟩
  | .sbcImm v => ⟨"SBC", 0xE9, (.immediate v), (.both (.fixed 2))⟩
  | .sbcAbs w => ⟨"SBC", 0xED, (.mem (.abs w)), (.both (.fixed 4))⟩
  | .sbcIndY z => ⟨"SBC", 0xF1, (.mem (.indY z)), (.both (.plusP 5))⟩
  | .sbcZpInd z => ⟨"SBC", 0xF2, (.mem (.zpInd z)), (.cmosOnly (.fixed 5))⟩
  | .sbcZpX z => ⟨"SBC", 0xF5, (.mem (.zpX z)), (.both (.fixed 4))⟩
  | .sbcAbsY w => ⟨"SBC", 0xF9, (.mem (.absY w)), (.both (.plusP 4))⟩
  | .sbcAbsX w => ⟨"SBC", 0xFD, (.mem (.absX w)), (.both (.plusP 4))⟩
  | .cmpXInd z => ⟨"CMP", 0xC1, (.mem (.xInd z)), (.both (.fixed 6))⟩
  | .cmpZp z => ⟨"CMP", 0xC5, (.mem (.zp z)), (.both (.fixed 3))⟩
  | .cmpImm v => ⟨"CMP", 0xC9, (.immediate v), (.both (.fixed 2))⟩
  | .cmpAbs w => ⟨"CMP", 0xCD, (.mem (.abs w)), (.both (.fixed 4))⟩
  | .cmpIndY z => ⟨"CMP", 0xD1, (.mem (.indY z)), (.both (.plusP 5))⟩
  | .cmpZpInd z => ⟨"CMP", 0xD2, (.mem (.zpInd z)), (.cmosOnly (.fixed 5))⟩
  | .cmpZpX z => ⟨"CMP", 0xD5, (.mem (.zpX z)), (.both (.fixed 4))⟩
  | .cmpAbsY w => ⟨"CMP", 0xD9, (.mem (.absY w)), (.both (.plusP 4))⟩
  | .cmpAbsX w => ⟨"CMP", 0xDD, (.mem (.absX w)), (.both (.plusP 4))⟩
  | .cpxImm v => ⟨"CPX", 0xE0, (.immediate v), (.both (.fixed 2))⟩
  | .cpxZp z => ⟨"CPX", 0xE4, (.mem (.zp z)), (.both (.fixed 3))⟩
  | .cpxAbs w => ⟨"CPX", 0xEC, (.mem (.abs w)), (.both (.fixed 4))⟩
  | .cpyImm v => ⟨"CPY", 0xC0, (.immediate v), (.both (.fixed 2))⟩
  | .cpyZp z => ⟨"CPY", 0xC4, (.mem (.zp z)), (.both (.fixed 3))⟩
  | .cpyAbs w => ⟨"CPY", 0xCC, (.mem (.abs w)), (.both (.fixed 4))⟩
  | .incAcc => ⟨"INC", 0x1A, .accumulator, (.cmosOnly (.fixed 2))⟩
  | .incZp z => ⟨"INC", 0xE6, (.mem (.zp z)), (.both (.fixed 5))⟩
  | .incAbs w => ⟨"INC", 0xEE, (.mem (.abs w)), (.both (.fixed 6))⟩
  | .incZpX z => ⟨"INC", 0xF6, (.mem (.zpX z)), (.both (.fixed 6))⟩
  | .incAbsX w => ⟨"INC", 0xFE, (.mem (.absX w)), (.both (.fixed 7))⟩
  | .decAcc => ⟨"DEC", 0x3A, .accumulator, (.cmosOnly (.fixed 2))⟩
  | .decZp z => ⟨"DEC", 0xC6, (.mem (.zp z)), (.both (.fixed 5))⟩
  | .decAbs w => ⟨"DEC", 0xCE, (.mem (.abs w)), (.both (.fixed 6))⟩
  | .decZpX z => ⟨"DEC", 0xD6, (.mem (.zpX z)), (.both (.fixed 6))⟩
  | .decAbsX w => ⟨"DEC", 0xDE, (.mem (.absX w)), (.both (.fixed 7))⟩
  | .inx => ⟨"INX", 0xE8, .implied, (.both (.fixed 2))⟩
  | .iny => ⟨"INY", 0xC8, .implied, (.both (.fixed 2))⟩
  | .dex => ⟨"DEX", 0xCA, .implied, (.both (.fixed 2))⟩
  | .dey => ⟨"DEY", 0x88, .implied, (.both (.fixed 2))⟩
  -- logic, bit-test, shift, rotate and bit-manipulation instructions (43_logic_shift_bit.md)
  | .andXInd z => ⟨"AND", 0x21, (.mem (.xInd z)), (.both (.fixed 6))⟩
  | .andZp z => ⟨"AND", 0x25, (.mem (.zp z)), (.both (.fixed 3))⟩
  | .andImm v => ⟨"AND", 0x29, (.immediate v), (.both (.fixed 2))⟩
  | .andAbs w => ⟨"AND", 0x2D, (.mem (.abs w)), (.both (.fixed 4))⟩
  | .andIndY z => ⟨"AND", 0x31, (.mem (.indY z)), (.both (.plusP 5))⟩
  | .andZpInd z => ⟨"AND", 0x32, (.mem (.zpInd z)), (.cmosOnly (.fixed 5))⟩
  | .andZpX z => ⟨"AND", 0x35, (.mem (.zpX z)), (.both (.fixed 4))⟩
  | .andAbsY w => ⟨"AND", 0x39, (.mem (.absY w)), (.both (.plusP 4))⟩
  | .andAbsX w => ⟨"AND", 0x3D, (.mem (.absX w)), (.both (.plusP 4))⟩
  | .oraXInd z => ⟨"ORA", 0x01, (.mem (.xInd z)), (.both (.fixed 6))⟩
  | .oraZp z => ⟨"ORA", 0x05, (.mem (.zp z)), (.both (.fixed 3))⟩
  | .oraImm v => ⟨"ORA", 0x09, (.immediate v), (.both (.fixed 2))⟩
  | .oraAbs w => ⟨"ORA", 0x0D, (.mem (.abs w)), (.both (.fixed 4))⟩
  | .oraIndY z => ⟨"ORA", 0x11, (.mem (.indY z)), (.both (.plusP 5))⟩
  | .oraZpInd z => ⟨"ORA", 0x12, (.mem (.zpInd z)), (.cmosOnly (.fixed 5))⟩
  | .oraZpX z => ⟨"ORA", 0x15, (.mem (.zpX z)), (.both (.fixed 4))⟩
  | .oraAbsY w => ⟨"ORA", 0x19, (.mem (.absY w)), (.both (.plusP 4))⟩
  | .oraAbsX w => ⟨"ORA", 0x1D, (.mem (.absX w)), (.both (.plusP 4))⟩
  | .eorXInd z => ⟨"EOR", 0x41, (.mem (.xInd z)), (.both (.fixed 6))⟩
  | .eorZp z => ⟨"EOR", 0x45, (.mem (.zp z)), (.both (.fixed 3))⟩
  | .eorImm v => ⟨"EOR", 0x49, (.immediate v), (.both (.fixed 2))⟩
  | .eorAbs w => ⟨"EOR", 0x4D, (.mem (.abs w)), (.both (.fixed 4))⟩
  | .eorIndY z => ⟨"EOR", 0x51, (.mem (.indY z)), (.both (.plusP 5))⟩
  | .eorZpInd z => ⟨"EOR", 0x52, (.mem (.zpInd z)), (.cmosOnly (.fixed 5))⟩
  | .eorZpX z => ⟨"EOR", 0x55, (.mem (.zpX z)), (.both (.fixed 4))⟩
  | .eorAbsY w => ⟨"EOR", 0x59, (.mem (.absY w)), (.both (.plusP 4))⟩
  | .eorAbsX w => ⟨"EOR", 0x5D, (.mem (.absX w)), (.both (.plusP 4))⟩
  | .bitZp z => ⟨"BIT", 0x24, (.mem (.zp z)), (.both (.fixed 3))⟩
  | .bitAbs w => ⟨"BIT", 0x2C, (.mem (.abs w)), (.both (.fixed 4))⟩
  | .bitZpX z => ⟨"BIT", 0x34, (.mem (.zpX z)), (.cmosOnly (.fixed 4))⟩
  | .bitAbsX w => ⟨"BIT", 0x3C, (.mem (.absX w)), (.cmosOnly (.plusP 4))⟩
  | .bitImm v => ⟨"BIT", 0x89, (.immediate v), (.cmosOnly (.fixed 2))⟩
  | .aslZp z => ⟨"ASL", 0x06, (.mem (.zp z)), (.both (.fixed 5))⟩
  | .aslAcc => ⟨"ASL", 0x0A, .accumulator, (.both (.fixed 2))⟩
  | .aslAbs w => ⟨"ASL", 0x0E, (.mem (.abs w)), (.both (.fixed 6))⟩
  | .aslZpX z => ⟨"ASL", 0x16, (.mem (.zpX z)), (.both (.fixed 6))⟩
  | .aslAbsX w => ⟨"ASL", 0x1E, (.mem (.absX w)), (.split (.fixed 7) (.plusP 6))⟩
  | .lsrZp z => ⟨"LSR", 0x46, (.mem (.zp z)), (.both (.fixed 5))⟩
  | .lsrAcc => ⟨"LSR", 0x4A, .accumulator, (.both (.fixed 2))⟩
  | .lsrAbs w => ⟨"LSR", 0x4E, (.mem (.abs w)), (.both (.fixed 6))⟩
  | .lsrZpX z => ⟨"LSR", 0x56, (.mem (.zpX z)), (.both (.fixed 6))⟩
  | .lsrAbsX w => ⟨"LSR", 0x5E, (.mem (.absX w)), (.split (.fixed 7) (.plusP 6))⟩
  | .rolZp z => ⟨"ROL", 0x26, (.mem (.zp z)), (.both (.fixed 5))⟩
  | .rolAcc => ⟨"ROL", 0x2A, .accumulator, (.both (.fixed 2))⟩
  | .rolAbs w => ⟨"ROL", 0x2E, (.mem (.abs w)), (.both (.fixed 6))⟩
  | .rolZpX z => ⟨"ROL", 0x36, (.mem (.zpX z)), (.both (.fixed 6))⟩
  | .rolAbsX w => ⟨"ROL", 0x3E, (.mem (.absX w)), (.split (.fixed 7) (.plusP 6))⟩
  | .rorZp z => ⟨"ROR", 0x66, (.mem (.zp z)), (.both (.fixed 5))⟩
  | .rorAcc => ⟨"ROR", 0x6A, .accumulator, (.both (.fixed 2))⟩
  | .rorAbs w => ⟨"ROR", 0x6E, (.mem (.abs w)), (.both (.fixed 6))⟩
  | .rorZpX z => ⟨"ROR", 0x76, (.mem (.zpX z)), (.both (.fixed 6))⟩
  | .rorAbsX w => ⟨"ROR", 0x7E, (.mem (.absX w)), (.split (.fixed 7) (.plusP 6))⟩
  | .tsbZp z => ⟨"TSB", 0x04, (.mem (.zp z)), (.cmosOnly (.fixed 5))⟩
  | .tsbAbs w => ⟨"TSB", 0x0C, (.mem (.abs w)), (.cmosOnly (.fixed 6))⟩
  | .trbZp z => ⟨"TRB", 0x14, (.mem (.zp z)), (.cmosOnly (.fixed 5))⟩
  | .trbAbs w => ⟨"TRB", 0x1C, (.mem (.abs w)), (.cmosOnly (.fixed 6))⟩
  | .rmb0 z => ⟨"RMB0", 0x07, (.mem (.zp z)), (.cmosOnly (.fixed 5))⟩
  | .rmb1 z => ⟨"RMB1", 0x17, (.mem (.zp z)), (.cmosOnly (.fixed 5))⟩
  | .rmb2 z => ⟨"RMB2", 0x27, (.mem (.zp z)), (.cmosOnly (.fixed 5))⟩
  | .rmb3 z => ⟨"RMB3", 0x37, (.mem (.zp z)), (.cmosOnly (.fixed 5))⟩
  | .rmb4 z => ⟨"RMB4", 0x47, (.mem (.zp z)), (.cmosOnly (.fixed 5))⟩
  | .rmb5 z => ⟨"RMB5", 0x57, (.mem (.zp z)), (.cmosOnly (.fixed 5))⟩
  | .rmb6 z => ⟨"RMB6", 0x67, (.mem (.zp z)), (.cmosOnly (.fixed 5))⟩
  | .rmb7 z => ⟨"RMB7", 0x77, (.mem (.zp z)), (.cmosOnly (.fixed 5))⟩
  | .smb0 z => ⟨"SMB0", 0x87, (.mem (.zp z)), (.cmosOnly (.fixed 5))⟩
  | .smb1 z => ⟨"SMB1", 0x97, (.mem (.zp z)), (.cmosOnly (.fixed 5))⟩
  | .smb2 z => ⟨"SMB2", 0xA7, (.mem (.zp z)), (.cmosOnly (.fixed 5))⟩
  | .smb3 z => ⟨"SMB3", 0xB7, (.mem (.zp z)), (.cmosOnly (.fixed 5))⟩
  | .smb4 z => ⟨"SMB4", 0xC7, (.mem (.zp z)), (.cmosOnly (.fixed 5))⟩
  | .smb5 z => ⟨"SMB5", 0xD7, (.mem (.zp z)), (.cmosOnly (.fixed 5))⟩
  | .smb6 z => ⟨"SMB6", 0xE7, (.mem (.zp z)), (.cmosOnly (.fixed 5))⟩
  | .smb7 z => ⟨"SMB7", 0xF7, (.mem (.zp z)), (.cmosOnly (.fixed 5))⟩
  -- branches, jumps, call and return (44_branch_jump.md)
  | .bpl d => ⟨"BPL", 0x10, (.relative d), (.both (.fixed 2))⟩
  | .bmi d => ⟨"BMI", 0x30, (.relative d), (.both (.fixed 2))⟩
  | .bvc d => ⟨"BVC", 0x50, (.relative d), (.both (.fixed 2))⟩
  | .bvs d => ⟨"BVS", 0x70, (.relative d), (.both (.fixed 2))⟩
  | .bcc d => ⟨"BCC", 0x90, (.relative d), (.both (.fixed 2))⟩
  | .bcs d => ⟨"BCS", 0xB0, (.relative d), (.both (.fixed 2))⟩
  | .bne d => ⟨"BNE", 0xD0, (.relative d), (.both (.fixed 2))⟩
  | .beq d => ⟨"BEQ", 0xF0, (.relative d), (.both (.fixed 2))⟩
  | .bra d => ⟨"BRA", 0x80, (.relative d), (.cmosOnly (.fixed 3))⟩
  | .bbr0 z d => ⟨"BBR0", 0x0F, (.zeroPageRelative z d), (.cmosOnly (.fixed 5))⟩
  | .bbr1 z d => ⟨"BBR1", 0x1F, (.zeroPageRelative z d), (.cmosOnly (.fixed 5))⟩
  | .bbr2 z d => ⟨"BBR2", 0x2F, (.zeroPageRelative z d), (.cmosOnly (.fixed 5))⟩
  | .bbr3 z d => ⟨"BBR3", 0x3F, (.zeroPageRelative z d), (.cmosOnly (.fixed 5))⟩
  | .bbr4 z d => ⟨"BBR4", 0x4F, (.zeroPageRelative z d), (.cmosOnly (.fixed 5))⟩
  | .bbr5 z d => ⟨"BBR5", 0x5F, (.zeroPageRelative z d), (.cmosOnly (.fixed 5))⟩
  | .bbr6 z d => ⟨"BBR6", 0x6F, (.zeroPageRelative z d), (.cmosOnly (.fixed 5))⟩
  | .bbr7 z d => ⟨"BBR7", 0x7F, (.zeroPageRelative z d), (.cmosOnly (.fixed 5))⟩
  | .bbs0 z d => ⟨"BBS0", 0x8F, (.zeroPageRelative z d), (.cmosOnly (.fixed 5))⟩
  | .bbs1 z d => ⟨"BBS1", 0x9F, (.zeroPageRelative z d), (.cmosOnly (.fixed 5))⟩
  | .bbs2 z d => ⟨"BBS2", 0xAF, (.zeroPageRelative z d), (.cmosOnly (.fixed 5))⟩
  | .bbs3 z d => ⟨"BBS3", 0xBF, (.zeroPageRelative z d), (.cmosOnly (.fixed 5))⟩
  | .bbs4 z d => ⟨"BBS4", 0xCF, (.zeroPageRelative z d), (.cmosOnly (.fixed 5))⟩
  | .bbs5 z d => ⟨"BBS5", 0xDF, (.zeroPageRelative z d), (.cmosOnly (.fixed 5))⟩
  | .bbs6 z d => ⟨"BBS6", 0xEF, (.zeroPageRelative z d), (.cmosOnly (.fixed 5))⟩
  | .bbs7 z d => ⟨"BBS7", 0xFF, (.zeroPageRelative z d), (.cmosOnly (.fixed 5))⟩
  | .jmpAbs w => ⟨"JMP", 0x4C, (.mem (.abs w)), (.both (.fixed 3))⟩
  | .jmpInd w => ⟨"JMP", 0x6C, (.indirect w), (.split (.fixed 5) (.fixed 6))⟩
  | .jmpAbsXInd w => ⟨"JMP", 0x7C, (.absoluteXIndirect w), (.cmosOnly (.fixed 6))⟩
  | .jsr w => ⟨"JSR", 0x20, (.mem (.abs w)), (.both (.fixed 6))⟩
  | .rts => ⟨"RTS", 0x60, .implied, (.both (.fixed 6))⟩
  -- stack, flag, no-operation and system instructions (45_stack_flags_system.md)
  | .pha => ⟨"PHA", 0x48, .implied, (.both (.fixed 3))⟩
  | .pla => ⟨"PLA", 0x68, .implied, (.both (.fixed 4))⟩
  | .php => ⟨"PHP", 0x08, .implied, (.both (.fixed 3))⟩
  | .plp => ⟨"PLP", 0x28, .implied, (.both (.fixed 4))⟩
  | .phx => ⟨"PHX", 0xDA, .implied, (.cmosOnly (.fixed 3))⟩
  | .plx => ⟨"PLX", 0xFA, .implied, (.cmosOnly (.fixed 4))⟩
  | .phy => ⟨"PHY", 0x5A, .implied, (.cmosOnly (.fixed 3))⟩
  | .ply => ⟨"PLY", 0x7A, .implied, (.cmosOnly (.fixed 4))⟩
  | .clc => ⟨"CLC", 0x18, .implied, (.both (.fixed 2))⟩
  | .sec => ⟨"SEC", 0x38, .implied, (.both (.fixed 2))⟩
  | .cli => ⟨"CLI", 0x58, .implied, (.both (.fixed 2))⟩
  | .sei => ⟨"SEI", 0x78, .implied, (.both (.fixed 2))⟩
  | .clv => ⟨"CLV", 0xB8, .implied, (.both (.fixed 2))⟩
  | .cld => ⟨"CLD", 0xD8, .implied, (.both (.fixed 2))⟩
  | .sed => ⟨"SED", 0xF8, .implied, (.both (.fixed 2))⟩
  | .nop => ⟨"NOP", 0xEA, .implied, (.both (.fixed 2))⟩
  | .brk => ⟨"BRK", 0x00, .implied, (.both (.fixed 7))⟩
  | .rti => ⟨"RTI", 0x40, .implied, (.both (.fixed 6))⟩
  -- the sentinel entry of R77: Implied, 7 cycles
  | .illNmos op => ⟨"ILL", op, .implied, (.nmosOnly (.fixed 7))⟩
  | .illCmos op => ⟨"ILL", op, .implied, (.cmosOnly (.fixed 7))⟩

/-- The opcode byte. -/
def Instr.opcode (i : Instr) : Byte := i.row.opcode

/-- The operand with its mode. -/
def Instr.operand (i : Instr) : Operand := i.row.operand

/-- The mnemonic text (no effect on execution, R74). -/
def Instr.mnemonic (i : Instr) : String := i.row.mnemonic

/-- The cost in a variant. -/
def Instr.cost (i : Instr) (v : Variant) : Cost := i.row.timing.cost v

/-- The mode tag of an operand (R71). -/
def Operand.mode : Operand → Mode
  | .implied => .implied
  | .accumulator => .accumulator
  | .immediate _ => .immediate
  | .mem (.zp _) => .zeroPage
  | .mem (.zpX _) => .zeroPageX
  | .mem (.zpY _) => .zeroPageY
  | .mem (.abs _) => .absolute
  | .mem (.absX _) => .absoluteX
  | .mem (.absY _) => .absoluteY
  | .mem (.xInd _) => .xIndexed
  | .mem (.indY _) => .indexedY
  | .mem (.zpInd _) => .zeroPageIndirect
  | .relative _ => .relative
  | .zeroPageRelative _ _ => .zeroPageRelative
  | .indirect _ => .indirect
  | .absoluteXIndirect _ => .absoluteXIndirect

/-- The operand bytes of a mode: its "operand byte-width" (R71). -/
def Mode.operandBytes : Mode → Nat
  | .implied | .accumulator => 0
  | .immediate | .zeroPage | .zeroPageX | .zeroPageY => 1
  | .xIndexed | .indexedY | .zeroPageIndirect | .relative => 1
  | .absolute | .absoluteX | .absoluteY => 2
  | .zeroPageRelative | .indirect | .absoluteXIndirect => 2

/-- How many operand bytes the instruction has. -/
def Instr.operandBytes (i : Instr) : Nat := i.operand.mode.operandBytes

/-- Instruction length: one opcode byte and the operand bytes (R72). -/
def Instr.length (i : Instr) : Nat := 1 + i.operandBytes

/-- The 105 illegal bytes of NMOS6502 (R77). -/
def nmosIllegal : List Byte :=
  [0x02, 0x03, 0x04, 0x07, 0x0B, 0x0C, 0x0F, 0x12, 0x13, 0x14, 0x17, 0x1A, 0x1B, 0x1C, 0x1F, 0x22] ++
  [0x23, 0x27, 0x2B, 0x2F, 0x32, 0x33, 0x34, 0x37, 0x3A, 0x3B, 0x3C, 0x3F, 0x42, 0x43, 0x44, 0x47] ++
  [0x4B, 0x4F, 0x52, 0x53, 0x54, 0x57, 0x5A, 0x5B, 0x5C, 0x5F, 0x62, 0x63, 0x64, 0x67, 0x6B, 0x6F] ++
  [0x72, 0x73, 0x74, 0x77, 0x7A, 0x7B, 0x7C, 0x7F, 0x80, 0x82, 0x83, 0x87, 0x89, 0x8B, 0x8F, 0x92] ++
  [0x93, 0x97, 0x9B, 0x9C, 0x9E, 0x9F, 0xA3, 0xA7, 0xAB, 0xAF, 0xB2, 0xB3, 0xB7, 0xBB, 0xBF, 0xC2] ++
  [0xC3, 0xC7, 0xCB, 0xCF, 0xD2, 0xD3, 0xD4, 0xD7, 0xDA, 0xDB, 0xDC, 0xDF, 0xE2, 0xE3, 0xE7, 0xEB] ++
  [0xEF, 0xF2, 0xF3, 0xF4, 0xF7, 0xFA, 0xFB, 0xFC, 0xFF]

/-- The 46 illegal bytes of CMOS65C02 (R77). -/
def cmosIllegal : List Byte :=
  [0x02, 0x03, 0x0B, 0x13, 0x1B, 0x22, 0x23, 0x2B, 0x33, 0x3B, 0x42, 0x43, 0x44, 0x4B, 0x53, 0x54] ++
  [0x5B, 0x5C, 0x62, 0x63, 0x6B, 0x73, 0x7B, 0x82, 0x83, 0x8B, 0x93, 0x9B, 0xA3, 0xAB, 0xB3, 0xBB] ++
  [0xC2, 0xC3, 0xCB, 0xD3, 0xD4, 0xDB, 0xDC, 0xE2, 0xE3, 0xEB, 0xF3, 0xF4, 0xFB, 0xFC]

end Sys2Proof
end

