-- ==== Sys2Proof/WellFormed.lean ====
section
/-! DEFINITION. Which instructions a variant has: its row must stand in the variant's table (R75), and a
fallback entry must carry a byte that is illegal there (R77). Every operand value is admitted (R70). -/

namespace Sys2Proof

/-- The instruction's row stands in the table of the variant (R75, R76). -/
def Instr.legalIn (i : Instr) (v : Variant) : Bool := i.row.timing.legalIn v

/-- A fallback entry carries an illegal byte of its variant (R77). -/
def Instr.fallbackByteOk : Instr → Bool
  | .illNmos op => nmosIllegal.contains op
  | .illCmos op => cmosIllegal.contains op
  | _ => true

/-- Well-formed for a variant. -/
def Instr.wellFormed (v : Variant) (i : Instr) : Bool := i.legalIn v && i.fallbackByteOk

end Sys2Proof
end

