-- ==== Sys2Proof/Decode.lean ====
section
/-! DEFINITION. The decoder: a total lookup on byte 0 (R70, R75, R76), its list form that rejects by name
when bytes are missing, and after it the encoder. -/

namespace Sys2Proof

open Machine (joinBytes highByte lowByte)

/-! ### The 151 rows of both variants, by the high hexadecimal digit of the opcode (R76) -/

/-- Rows 0x00 to 0x0F of both variants. -/
def decodeRow0 (op b1 b2 : Byte) : Option Instr :=
  match op with
  | 0x00#8 => some (.brk)
  | 0x01#8 => some (.oraXInd b1)
  | 0x05#8 => some (.oraZp b1)
  | 0x06#8 => some (.aslZp b1)
  | 0x08#8 => some (.php)
  | 0x09#8 => some (.oraImm b1)
  | 0x0A#8 => some (.aslAcc)
  | 0x0D#8 => some (.oraAbs (joinBytes b2 b1))
  | 0x0E#8 => some (.aslAbs (joinBytes b2 b1))
  | _ => none

/-- Rows 0x10 to 0x1F of both variants. -/
def decodeRow1 (op b1 b2 : Byte) : Option Instr :=
  match op with
  | 0x10#8 => some (.bpl b1)
  | 0x11#8 => some (.oraIndY b1)
  | 0x15#8 => some (.oraZpX b1)
  | 0x16#8 => some (.aslZpX b1)
  | 0x18#8 => some (.clc)
  | 0x19#8 => some (.oraAbsY (joinBytes b2 b1))
  | 0x1D#8 => some (.oraAbsX (joinBytes b2 b1))
  | 0x1E#8 => some (.aslAbsX (joinBytes b2 b1))
  | _ => none

/-- Rows 0x20 to 0x2F of both variants. -/
def decodeRow2 (op b1 b2 : Byte) : Option Instr :=
  match op with
  | 0x20#8 => some (.jsr (joinBytes b2 b1))
  | 0x21#8 => some (.andXInd b1)
  | 0x24#8 => some (.bitZp b1)
  | 0x25#8 => some (.andZp b1)
  | 0x26#8 => some (.rolZp b1)
  | 0x28#8 => some (.plp)
  | 0x29#8 => some (.andImm b1)
  | 0x2A#8 => some (.rolAcc)
  | 0x2C#8 => some (.bitAbs (joinBytes b2 b1))
  | 0x2D#8 => some (.andAbs (joinBytes b2 b1))
  | 0x2E#8 => some (.rolAbs (joinBytes b2 b1))
  | _ => none

/-- Rows 0x30 to 0x3F of both variants. -/
def decodeRow3 (op b1 b2 : Byte) : Option Instr :=
  match op with
  | 0x30#8 => some (.bmi b1)
  | 0x31#8 => some (.andIndY b1)
  | 0x35#8 => some (.andZpX b1)
  | 0x36#8 => some (.rolZpX b1)
  | 0x38#8 => some (.sec)
  | 0x39#8 => some (.andAbsY (joinBytes b2 b1))
  | 0x3D#8 => some (.andAbsX (joinBytes b2 b1))
  | 0x3E#8 => some (.rolAbsX (joinBytes b2 b1))
  | _ => none

/-- Rows 0x40 to 0x4F of both variants. -/
def decodeRow4 (op b1 b2 : Byte) : Option Instr :=
  match op with
  | 0x40#8 => some (.rti)
  | 0x41#8 => some (.eorXInd b1)
  | 0x45#8 => some (.eorZp b1)
  | 0x46#8 => some (.lsrZp b1)
  | 0x48#8 => some (.pha)
  | 0x49#8 => some (.eorImm b1)
  | 0x4A#8 => some (.lsrAcc)
  | 0x4C#8 => some (.jmpAbs (joinBytes b2 b1))
  | 0x4D#8 => some (.eorAbs (joinBytes b2 b1))
  | 0x4E#8 => some (.lsrAbs (joinBytes b2 b1))
  | _ => none

/-- Rows 0x50 to 0x5F of both variants. -/
def decodeRow5 (op b1 b2 : Byte) : Option Instr :=
  match op with
  | 0x50#8 => some (.bvc b1)
  | 0x51#8 => some (.eorIndY b1)
  | 0x55#8 => some (.eorZpX b1)
  | 0x56#8 => some (.lsrZpX b1)
  | 0x58#8 => some (.cli)
  | 0x59#8 => some (.eorAbsY (joinBytes b2 b1))
  | 0x5D#8 => some (.eorAbsX (joinBytes b2 b1))
  | 0x5E#8 => some (.lsrAbsX (joinBytes b2 b1))
  | _ => none

/-- Rows 0x60 to 0x6F of both variants. -/
def decodeRow6 (op b1 b2 : Byte) : Option Instr :=
  match op with
  | 0x60#8 => some (.rts)
  | 0x61#8 => some (.adcXInd b1)
  | 0x65#8 => some (.adcZp b1)
  | 0x66#8 => some (.rorZp b1)
  | 0x68#8 => some (.pla)
  | 0x69#8 => some (.adcImm b1)
  | 0x6A#8 => some (.rorAcc)
  | 0x6C#8 => some (.jmpInd (joinBytes b2 b1))
  | 0x6D#8 => some (.adcAbs (joinBytes b2 b1))
  | 0x6E#8 => some (.rorAbs (joinBytes b2 b1))
  | _ => none

/-- Rows 0x70 to 0x7F of both variants. -/
def decodeRow7 (op b1 b2 : Byte) : Option Instr :=
  match op with
  | 0x70#8 => some (.bvs b1)
  | 0x71#8 => some (.adcIndY b1)
  | 0x75#8 => some (.adcZpX b1)
  | 0x76#8 => some (.rorZpX b1)
  | 0x78#8 => some (.sei)
  | 0x79#8 => some (.adcAbsY (joinBytes b2 b1))
  | 0x7D#8 => some (.adcAbsX (joinBytes b2 b1))
  | 0x7E#8 => some (.rorAbsX (joinBytes b2 b1))
  | _ => none

/-- Rows 0x80 to 0x8F of both variants. -/
def decodeRow8 (op b1 b2 : Byte) : Option Instr :=
  match op with
  | 0x81#8 => some (.staXInd b1)
  | 0x84#8 => some (.styZp b1)
  | 0x85#8 => some (.staZp b1)
  | 0x86#8 => some (.stxZp b1)
  | 0x88#8 => some (.dey)
  | 0x8A#8 => some (.txa)
  | 0x8C#8 => some (.styAbs (joinBytes b2 b1))
  | 0x8D#8 => some (.staAbs (joinBytes b2 b1))
  | 0x8E#8 => some (.stxAbs (joinBytes b2 b1))
  | _ => none

/-- Rows 0x90 to 0x9F of both variants. -/
def decodeRow9 (op b1 b2 : Byte) : Option Instr :=
  match op with
  | 0x90#8 => some (.bcc b1)
  | 0x91#8 => some (.staIndY b1)
  | 0x94#8 => some (.styZpX b1)
  | 0x95#8 => some (.staZpX b1)
  | 0x96#8 => some (.stxZpY b1)
  | 0x98#8 => some (.tya)
  | 0x99#8 => some (.staAbsY (joinBytes b2 b1))
  | 0x9A#8 => some (.txs)
  | 0x9D#8 => some (.staAbsX (joinBytes b2 b1))
  | _ => none

/-- Rows 0xA0 to 0xAF of both variants. -/
def decodeRowA (op b1 b2 : Byte) : Option Instr :=
  match op with
  | 0xA0#8 => some (.ldyImm b1)
  | 0xA1#8 => some (.ldaXInd b1)
  | 0xA2#8 => some (.ldxImm b1)
  | 0xA4#8 => some (.ldyZp b1)
  | 0xA5#8 => some (.ldaZp b1)
  | 0xA6#8 => some (.ldxZp b1)
  | 0xA8#8 => some (.tay)
  | 0xA9#8 => some (.ldaImm b1)
  | 0xAA#8 => some (.tax)
  | 0xAC#8 => some (.ldyAbs (joinBytes b2 b1))
  | 0xAD#8 => some (.ldaAbs (joinBytes b2 b1))
  | 0xAE#8 => some (.ldxAbs (joinBytes b2 b1))
  | _ => none

/-- Rows 0xB0 to 0xBF of both variants. -/
def decodeRowB (op b1 b2 : Byte) : Option Instr :=
  match op with
  | 0xB0#8 => some (.bcs b1)
  | 0xB1#8 => some (.ldaIndY b1)
  | 0xB4#8 => some (.ldyZpX b1)
  | 0xB5#8 => some (.ldaZpX b1)
  | 0xB6#8 => some (.ldxZpY b1)
  | 0xB8#8 => some (.clv)
  | 0xB9#8 => some (.ldaAbsY (joinBytes b2 b1))
  | 0xBA#8 => some (.tsx)
  | 0xBC#8 => some (.ldyAbsX (joinBytes b2 b1))
  | 0xBD#8 => some (.ldaAbsX (joinBytes b2 b1))
  | 0xBE#8 => some (.ldxAbsY (joinBytes b2 b1))
  | _ => none

/-- Rows 0xC0 to 0xCF of both variants. -/
def decodeRowC (op b1 b2 : Byte) : Option Instr :=
  match op with
  | 0xC0#8 => some (.cpyImm b1)
  | 0xC1#8 => some (.cmpXInd b1)
  | 0xC4#8 => some (.cpyZp b1)
  | 0xC5#8 => some (.cmpZp b1)
  | 0xC6#8 => some (.decZp b1)
  | 0xC8#8 => some (.iny)
  | 0xC9#8 => some (.cmpImm b1)
  | 0xCA#8 => some (.dex)
  | 0xCC#8 => some (.cpyAbs (joinBytes b2 b1))
  | 0xCD#8 => some (.cmpAbs (joinBytes b2 b1))
  | 0xCE#8 => some (.decAbs (joinBytes b2 b1))
  | _ => none

/-- Rows 0xD0 to 0xDF of both variants. -/
def decodeRowD (op b1 b2 : Byte) : Option Instr :=
  match op with
  | 0xD0#8 => some (.bne b1)
  | 0xD1#8 => some (.cmpIndY b1)
  | 0xD5#8 => some (.cmpZpX b1)
  | 0xD6#8 => some (.decZpX b1)
  | 0xD8#8 => some (.cld)
  | 0xD9#8 => some (.cmpAbsY (joinBytes b2 b1))
  | 0xDD#8 => some (.cmpAbsX (joinBytes b2 b1))
  | 0xDE#8 => some (.decAbsX (joinBytes b2 b1))
  | _ => none

/-- Rows 0xE0 to 0xEF of both variants. -/
def decodeRowE (op b1 b2 : Byte) : Option Instr :=
  match op with
  | 0xE0#8 => some (.cpxImm b1)
  | 0xE1#8 => some (.sbcXInd b1)
  | 0xE4#8 => some (.cpxZp b1)
  | 0xE5#8 => some (.sbcZp b1)
  | 0xE6#8 => some (.incZp b1)
  | 0xE8#8 => some (.inx)
  | 0xE9#8 => some (.sbcImm b1)
  | 0xEA#8 => some (.nop)
  | 0xEC#8 => some (.cpxAbs (joinBytes b2 b1))
  | 0xED#8 => some (.sbcAbs (joinBytes b2 b1))
  | 0xEE#8 => some (.incAbs (joinBytes b2 b1))
  | _ => none

/-- Rows 0xF0 to 0xFF of both variants. -/
def decodeRowF (op b1 b2 : Byte) : Option Instr :=
  match op with
  | 0xF0#8 => some (.beq b1)
  | 0xF1#8 => some (.sbcIndY b1)
  | 0xF5#8 => some (.sbcZpX b1)
  | 0xF6#8 => some (.incZpX b1)
  | 0xF8#8 => some (.sed)
  | 0xF9#8 => some (.sbcAbsY (joinBytes b2 b1))
  | 0xFD#8 => some (.sbcAbsX (joinBytes b2 b1))
  | 0xFE#8 => some (.incAbsX (joinBytes b2 b1))
  | _ => none

/-- The legal opcodes of both variants. -/
def decodeShared (op b1 b2 : Byte) : Option Instr :=
  match op >>> 4 with
  | 0x0#8 => decodeRow0 op b1 b2
  | 0x1#8 => decodeRow1 op b1 b2
  | 0x2#8 => decodeRow2 op b1 b2
  | 0x3#8 => decodeRow3 op b1 b2
  | 0x4#8 => decodeRow4 op b1 b2
  | 0x5#8 => decodeRow5 op b1 b2
  | 0x6#8 => decodeRow6 op b1 b2
  | 0x7#8 => decodeRow7 op b1 b2
  | 0x8#8 => decodeRow8 op b1 b2
  | 0x9#8 => decodeRow9 op b1 b2
  | 0xA#8 => decodeRowA op b1 b2
  | 0xB#8 => decodeRowB op b1 b2
  | 0xC#8 => decodeRowC op b1 b2
  | 0xD#8 => decodeRowD op b1 b2
  | 0xE#8 => decodeRowE op b1 b2
  | _ => decodeRowF op b1 b2

/-! ### The 59 rows of CMOS65C02 only (R75) -/

/-- Rows 0x00 to 0x0F of CMOS65C02 only. -/
def decodeCmosRow0 (op b1 b2 : Byte) : Option Instr :=
  match op with
  | 0x04#8 => some (.tsbZp b1)
  | 0x07#8 => some (.rmb0 b1)
  | 0x0C#8 => some (.tsbAbs (joinBytes b2 b1))
  | 0x0F#8 => some (.bbr0 b1 b2)
  | _ => none

/-- Rows 0x10 to 0x1F of CMOS65C02 only. -/
def decodeCmosRow1 (op b1 b2 : Byte) : Option Instr :=
  match op with
  | 0x12#8 => some (.oraZpInd b1)
  | 0x14#8 => some (.trbZp b1)
  | 0x17#8 => some (.rmb1 b1)
  | 0x1A#8 => some (.incAcc)
  | 0x1C#8 => some (.trbAbs (joinBytes b2 b1))
  | 0x1F#8 => some (.bbr1 b1 b2)
  | _ => none

/-- Rows 0x20 to 0x2F of CMOS65C02 only. -/
def decodeCmosRow2 (op b1 b2 : Byte) : Option Instr :=
  match op with
  | 0x27#8 => some (.rmb2 b1)
  | 0x2F#8 => some (.bbr2 b1 b2)
  | _ => none

/-- Rows 0x30 to 0x3F of CMOS65C02 only. -/
def decodeCmosRow3 (op b1 b2 : Byte) : Option Instr :=
  match op with
  | 0x32#8 => some (.andZpInd b1)
  | 0x34#8 => some (.bitZpX b1)
  | 0x37#8 => some (.rmb3 b1)
  | 0x3A#8 => some (.decAcc)
  | 0x3C#8 => some (.bitAbsX (joinBytes b2 b1))
  | 0x3F#8 => some (.bbr3 b1 b2)
  | _ => none

/-- Rows 0x40 to 0x4F of CMOS65C02 only. -/
def decodeCmosRow4 (op b1 b2 : Byte) : Option Instr :=
  match op with
  | 0x47#8 => some (.rmb4 b1)
  | 0x4F#8 => some (.bbr4 b1 b2)
  | _ => none

/-- Rows 0x50 to 0x5F of CMOS65C02 only. -/
def decodeCmosRow5 (op b1 b2 : Byte) : Option Instr :=
  match op with
  | 0x52#8 => some (.eorZpInd b1)
  | 0x57#8 => some (.rmb5 b1)
  | 0x5A#8 => some (.phy)
  | 0x5F#8 => some (.bbr5 b1 b2)
  | _ => none

/-- Rows 0x60 to 0x6F of CMOS65C02 only. -/
def decodeCmosRow6 (op b1 b2 : Byte) : Option Instr :=
  match op with
  | 0x64#8 => some (.stzZp b1)
  | 0x67#8 => some (.rmb6 b1)
  | 0x6F#8 => some (.bbr6 b1 b2)
  | _ => none

/-- Rows 0x70 to 0x7F of CMOS65C02 only. -/
def decodeCmosRow7 (op b1 b2 : Byte) : Option Instr :=
  match op with
  | 0x72#8 => some (.adcZpInd b1)
  | 0x74#8 => some (.stzZpX b1)
  | 0x77#8 => some (.rmb7 b1)
  | 0x7A#8 => some (.ply)
  | 0x7C#8 => some (.jmpAbsXInd (joinBytes b2 b1))
  | 0x7F#8 => some (.bbr7 b1 b2)
  | _ => none

/-- Rows 0x80 to 0x8F of CMOS65C02 only. -/
def decodeCmosRow8 (op b1 b2 : Byte) : Option Instr :=
  match op with
  | 0x80#8 => some (.bra b1)
  | 0x87#8 => some (.smb0 b1)
  | 0x89#8 => some (.bitImm b1)
  | 0x8F#8 => some (.bbs0 b1 b2)
  | _ => none

/-- Rows 0x90 to 0x9F of CMOS65C02 only. -/
def decodeCmosRow9 (op b1 b2 : Byte) : Option Instr :=
  match op with
  | 0x92#8 => some (.staZpInd b1)
  | 0x97#8 => some (.smb1 b1)
  | 0x9C#8 => some (.stzAbs (joinBytes b2 b1))
  | 0x9E#8 => some (.stzAbsX (joinBytes b2 b1))
  | 0x9F#8 => some (.bbs1 b1 b2)
  | _ => none

/-- Rows 0xA0 to 0xAF of CMOS65C02 only. -/
def decodeCmosRowA (op b1 b2 : Byte) : Option Instr :=
  match op with
  | 0xA7#8 => some (.smb2 b1)
  | 0xAF#8 => some (.bbs2 b1 b2)
  | _ => none

/-- Rows 0xB0 to 0xBF of CMOS65C02 only. -/
def decodeCmosRowB (op b1 b2 : Byte) : Option Instr :=
  match op with
  | 0xB2#8 => some (.ldaZpInd b1)
  | 0xB7#8 => some (.smb3 b1)
  | 0xBF#8 => some (.bbs3 b1 b2)
  | _ => none

/-- Rows 0xC0 to 0xCF of CMOS65C02 only. -/
def decodeCmosRowC (op b1 b2 : Byte) : Option Instr :=
  match op with
  | 0xC7#8 => some (.smb4 b1)
  | 0xCF#8 => some (.bbs4 b1 b2)
  | _ => none

/-- Rows 0xD0 to 0xDF of CMOS65C02 only. -/
def decodeCmosRowD (op b1 b2 : Byte) : Option Instr :=
  match op with
  | 0xD2#8 => some (.cmpZpInd b1)
  | 0xD7#8 => some (.smb5 b1)
  | 0xDA#8 => some (.phx)
  | 0xDF#8 => some (.bbs5 b1 b2)
  | _ => none

/-- Rows 0xE0 to 0xEF of CMOS65C02 only. -/
def decodeCmosRowE (op b1 b2 : Byte) : Option Instr :=
  match op with
  | 0xE7#8 => some (.smb6 b1)
  | 0xEF#8 => some (.bbs6 b1 b2)
  | _ => none

/-- Rows 0xF0 to 0xFF of CMOS65C02 only. -/
def decodeCmosRowF (op b1 b2 : Byte) : Option Instr :=
  match op with
  | 0xF2#8 => some (.sbcZpInd b1)
  | 0xF7#8 => some (.smb7 b1)
  | 0xFA#8 => some (.plx)
  | 0xFF#8 => some (.bbs7 b1 b2)
  | _ => none

/-- The opcodes CMOS65C02 adds. -/
def decodeCmosOnly (op b1 b2 : Byte) : Option Instr :=
  match op >>> 4 with
  | 0x0#8 => decodeCmosRow0 op b1 b2
  | 0x1#8 => decodeCmosRow1 op b1 b2
  | 0x2#8 => decodeCmosRow2 op b1 b2
  | 0x3#8 => decodeCmosRow3 op b1 b2
  | 0x4#8 => decodeCmosRow4 op b1 b2
  | 0x5#8 => decodeCmosRow5 op b1 b2
  | 0x6#8 => decodeCmosRow6 op b1 b2
  | 0x7#8 => decodeCmosRow7 op b1 b2
  | 0x8#8 => decodeCmosRow8 op b1 b2
  | 0x9#8 => decodeCmosRow9 op b1 b2
  | 0xA#8 => decodeCmosRowA op b1 b2
  | 0xB#8 => decodeCmosRowB op b1 b2
  | 0xC#8 => decodeCmosRowC op b1 b2
  | 0xD#8 => decodeCmosRowD op b1 b2
  | 0xE#8 => decodeCmosRowE op b1 b2
  | _ => decodeCmosRowF op b1 b2

/-! ### The decoder -/

/-- The variant's table, total: every byte not legal there is its fallback entry (R75, R77). `b1` and
`b2` are the two bytes after the opcode; an instruction takes as many as its mode has. -/
def decodeBytes (v : Variant) (op b1 b2 : Byte) : Instr :=
  match decodeShared op b1 b2 with
  | some i => i
  | none =>
    match v with
    | .nmos6502 => .illNmos op
    | .cmos65c02 =>
      match decodeCmosOnly op b1 b2 with
      | some i => i
      | none => .illCmos op

/-- Why a list of bytes does not decode: it ends too early. Every byte value decodes (R75). -/
inductive DecodeError where
  | noOpcode
  | operandMissing (op : Byte)
  deriving DecidableEq, Repr

/-- Decode the first instruction of a list of bytes, answering the rest of the list. -/
def decode (v : Variant) (bytes : List Byte) : Except DecodeError (Instr × List Byte) :=
  match bytes with
  | [] => .error .noOpcode
  | op :: rest =>
    let i := decodeBytes v op (rest.getD 0 0) (rest.getD 1 0)
    if i.operandBytes ≤ rest.length then .ok (i, rest.drop i.operandBytes)
    else .error (.operandMissing op)

/-! ### The encoder -/

/-- The operand bytes of a memory mode, low byte first (R73). -/
def MemOperand.bytes : MemOperand → List Byte
  | .zp z | .zpX z | .zpY z | .xInd z | .indY z | .zpInd z => [z]
  | .abs w | .absX w | .absY w => [lowByte w, highByte w]

/-- The operand bytes, low byte first; for ZeroPageRelative the zero-page address, then the displacement
(R73 (d)). -/
def Operand.bytes : Operand → List Byte
  | .implied | .accumulator => []
  | .immediate v => [v]
  | .mem m => m.bytes
  | .relative d => [d]
  | .zeroPageRelative z d => [z, d]
  | .indirect w | .absoluteXIndirect w => [lowByte w, highByte w]

/-- The bytes of an instruction: opcode, then operand bytes (R70). -/
def encode (i : Instr) : List Byte := i.opcode :: i.operand.bytes

/-! ### The host's form of the opcode table -/

/-- Byte `k` of an instruction's bits `w`, bit 0 the least significant bit of the first byte. -/
def tableByte (w k : Nat) : Byte := BitVec.ofNat 8 (w >>> (8 * k))

/-- The bits of `w` below `nbits`; every bit above is 0. -/
def tableBits (nbits w : Nat) : Nat := w % 2 ^ nbits

/-- What the decoder reads from an instruction whose bits are `w`. VARIANT has no default and this
interface has no place for one: CMOS65C02, whose table holds every legal row, DESIGN CHOICE (log 1). -/
def decodeTableWord (nbits w : Nat) : Option Instr :=
  let u := tableBits nbits w
  match decode .cmos65c02 [tableByte u 0, tableByte u 1, tableByte u 2] with
  | .ok (i, _) => some i
  | .error _ => none

end Sys2Proof
end

