-- ==== Sys2Proof/Machine/Memory.lean ====
section
/-! DEFINITION. Memory and the write-lock mask as plain data in canonical form (R40, R41).
An unlisted byte reads 0x00 and an unlisted address is unlocked: the contents after power-on and after
`clear()` (R29, R45). Keys are addresses as natural numbers below 65536. -/

namespace Sys2Proof.Machine

/-- `mem` of R41: (address, byte) pairs, addresses strictly rising, no entry 0x00. -/
abbrev Memory := List Host.Cell

/-- `lock` of R41: the locked addresses, strictly rising. -/
abbrev LockMask := List Nat

/-- What an address with no entry reads as: "zero all bytes" (R45, R29). -/
def unlistedByte : Byte := 0x00

/-- The byte at address `a`. -/
def Memory.read : Memory → Nat → Byte
  | [], _ => unlistedByte
  | (b, v) :: m, a => if b = a then v else Memory.read m a

/-- Set the entry of `a`, in its place in the rising order. -/
def Memory.insert : Memory → Nat → Byte → Memory
  | [], a, v => [(a, v)]
  | (b, w) :: m, a, v =>
    if a < b then (a, v) :: (b, w) :: m
    else if a = b then (a, v) :: m
    else (b, w) :: Memory.insert m a v

/-- Remove the entry of `a`. -/
def Memory.erase (m : Memory) (a : Nat) : Memory := m.filter fun c => c.1 != a

/-- `mem[a] <- v`, keeping the canonical form: a byte an unlisted address reads as gets no entry. -/
def Memory.write (m : Memory) (a : Nat) (v : Byte) : Memory :=
  if v = unlistedByte then m.erase a else m.insert a v

/-- `lo` is at most every listed address, the addresses rise strictly below 65536, no entry is idle. -/
def Memory.canonicalFrom : Nat → Memory → Bool
  | _, [] => true
  | lo, (a, v) :: m =>
    decide (lo ≤ a) && decide (a < 65536) && (v != unlistedByte) && Memory.canonicalFrom (a + 1) m

/-- The canonical form of memory. -/
def Memory.wf (m : Memory) : Bool := Memory.canonicalFrom 0 m

/-- `lock[a]`. -/
def LockMask.locked (l : LockMask) (a : Nat) : Bool := l.contains a

/-- `lock[a] <- true`. -/
def LockMask.add : LockMask → Nat → LockMask
  | [], a => [a]
  | b :: l, a =>
    if a < b then a :: b :: l
    else if a = b then b :: l
    else b :: LockMask.add l a

/-- The canonical form of the lock mask, from `lo` on. -/
def LockMask.canonicalFrom : Nat → LockMask → Bool
  | _, [] => true
  | lo, a :: l => decide (lo ≤ a) && decide (a < 65536) && LockMask.canonicalFrom (a + 1) l

/-- The canonical form of the lock mask. -/
def LockMask.wf (l : LockMask) : Bool := LockMask.canonicalFrom 0 l

end Sys2Proof.Machine
end

