-- ==== Sys2Proof/Machine/State.lean ====
section
/-! DEFINITION. The machine's state as plain data (10_state.md), the reasons a step can stop, and the
state after reset. -/

namespace Sys2Proof.Machine

/-- P (R16) as its seven stored flags. The Reserved bit has no storage: it is the constant 1 of
`Status.toByte` (R17). -/
structure Status where
  n : Bool
  v : Bool
  b : Bool
  d : Bool
  i : Bool
  z : Bool
  c : Bool
  deriving DecidableEq, Repr

/-- `runState` of R22. -/
inductive RunState where
  | idle
  | running
  | halted
  deriving DecidableEq, Repr

/-- The seven notifications of R332. -/
inductive Event where
  | runStarting
  | runFinished
  | aboutToExecute (p : Word) (op : Byte)
  | justExecuted (p : Word) (op : Byte)
  | byteRead (addr : Word) (value : Byte)
  | byteWritten (addr : Word) (value : Byte)
  | invalidWrite (addr : Word) (value : Byte)
  deriving DecidableEq, Repr

/-- The state: the registers (R10), the cycle counter (R21), the run control (R22, R23), the interrupt
inputs (R24), the attached memory (R25), the event outputs (R31, R332), and the configuration record
(R3), which no step writes. -/
structure State where
  cfg        : Config
  pc         : Word
  a          : Byte
  x          : Byte
  y          : Byte
  /-- S, the stack pointer (R14). -/
  sp         : Byte
  /-- P, the status register (R16). -/
  p          : Status
  cycles     : BitVec 64
  runState   : RunState
  proceed    : Bool
  irqLine    : Bool
  nmiPending : Bool
  mem        : Memory
  lock       : LockMask
  /-- The events emitted so far, newest first (R31). -/
  trace      : List Event
  deriving DecidableEq, Repr

/-- Faults: none. "the core itself does not throw during normal execution" (R313), and every address
and every operation is defined (R365). Nothing raises one, which is safe. -/
inductive Fault where
  deriving DecidableEq, Repr

/-- Why a step has no next state. -/
inductive Refusal where
  /-- Raised by an arm of `exec` that has no meaning yet. Safe: nothing is provable of what follows. -/
  | notModelled (mnemonic : String)
  /-- Raised by the fallback entry ILL when `ILLEGAL_POLICY = Refuse` (R294, D4): the spec's own refusal
  outcome. Safe: the spec gives no effect under that policy. -/
  | illegalOpcode (op : Byte)
  /-- Raised by `step` in Idle or Halted (R105 part (b), D29): the core has no step there. Safe. -/
  | notRunning (runState : RunState)
  deriving DecidableEq, Repr

/-- The state right after `reset()` from power-on (R28, R29, R351): the parameters of R3 at their
defaults, memory all zero and unlocked, so that the RESET vector reads 0x0000 (R354). VARIANT has no
default: CMOS65C02 here, DESIGN CHOICE (log 1). `irq_line` is an input that reset leaves unchanged: 0,
DESIGN CHOICE (log 4). -/
def State.reset : State where
  cfg        := Config.standard .cmos65c02
  pc         := 0x0000
  a          := 0x00
  x          := 0x80
  y          := 0x00
  sp         := 0xFF
  p          := { n := false, v := false, b := false, d := false, i := true, z := false, c := false }
  cycles     := 0
  runState   := .running
  proceed    := true
  irqLine    := false
  nmiPending := false
  mem        := []
  lock       := []
  trace      := [.byteRead 0xFFFD 0x00, .byteRead 0xFFFC 0x00]

end Sys2Proof.Machine
end

