-- ==== Sys2Proof/Machine/Flags.lean ====
section
/-! DEFINITION. The status register as a byte (R16 to R19) and every flag and result computation of
40_step_and_addressing.md, 42_arithmetic.md and 43_logic_shift_bit.md. -/

namespace Sys2Proof.Machine

/-! ### P as a byte -/

/-- `toByte(flags)` of R19: the byte of R16, most significant flag first, Reserved (bit 5) = 1. -/
def Status.toByte (p : Status) : Byte :=
  BitVec.ofBool p.n ++ BitVec.ofBool p.v ++ BitVec.ofBool true ++ BitVec.ofBool p.b ++
    BitVec.ofBool p.d ++ BitVec.ofBool p.i ++ BitVec.ofBool p.z ++ BitVec.ofBool p.c

/-- `fromByte(v)` of R19: the flags of `v | 0x20`. -/
def Status.ofByte (v : Byte) : Status where
  n := v.getLsbD 7
  v := v.getLsbD 6
  b := v.getLsbD 4
  d := v.getLsbD 3
  i := v.getLsbD 2
  z := v.getLsbD 1
  c := v.getLsbD 0

/-- The byte a push of P stores, its bit 4 forced to `b` (R18, R272, R314). P itself is not changed. -/
def Status.pushedByte (p : Status) (b : Bool) : Byte := { p with b := b }.toByte

/-- `SetNZ(v)` of R130. -/
def Status.setNZ (p : Status) (v : Byte) : Status := { p with n := v.msb, z := v == 0 }

/-! ### Binary addition and subtraction (R171, R173, R174) -/

/-- `s` of R171, before reduction: 0 to 511. -/
def addSum (a m : Byte) (c : Bool) : Nat := a.toNat + m.toNat + c.toNat

/-- `s[7:0]` of R171. -/
def addByte (a m : Byte) (c : Bool) : Byte := BitVec.ofNat 8 (addSum a m c)

/-- `s[8]` of R171: 1 iff s > 255. -/
def addCarry (a m : Byte) (c : Bool) : Bool := decide (255 < addSum a m c)

/-- V of an addition (R174): `(~(a ^ m) & (a ^ s))[7]`. -/
def addOverflow (a m : Byte) (c : Bool) : Bool := (~~~(a ^^^ m) &&& (a ^^^ addByte a m c)).msb

/-- `d` of R173, an integer: -256 to 255. -/
def subDiff (a m : Byte) (c : Bool) : Int := (a.toNat : Int) - m.toNat - (1 - c.toNat)

/-- `d mod 256` of R173. -/
def subByte (a m : Byte) (c : Bool) : Byte := BitVec.ofInt 8 (subDiff a m c)

/-- The carry of R173: 1 iff d >= 0 (no borrow). -/
def subCarry (a m : Byte) (c : Bool) : Bool := decide (0 ≤ subDiff a m c)

/-- V of a subtraction (R174): `((a ^ m) & (a ^ d))[7]`. -/
def subOverflow (a m : Byte) (c : Bool) : Bool := ((a ^^^ m) &&& (a ^^^ subByte a m c)).msb

/-! ### Decimal addition and subtraction (R175, R177) -/

/-- `b[3:0]` as a number. -/
def lowDigit (b : Byte) : Nat := b.toNat % 16

/-- `b & 0xF0` as a number. -/
def highPart (b : Byte) : Nat := b.toNat / 16 * 16

/-- `al` of R175 after its correction. -/
def decAddLow (a m : Byte) (c : Bool) : Nat :=
  let al := lowDigit a + lowDigit m + c.toNat
  if 0x0A ≤ al then (al + 6) % 16 + 0x10 else al

/-- `r` of R175 after its correction. -/
def decAddTotal (a m : Byte) (c : Bool) : Nat :=
  let r := highPart a + highPart m + decAddLow a m c
  if 0xA0 ≤ r then r + 0x60 else r

/-- The accumulator of R175. -/
def decAddByte (a m : Byte) (c : Bool) : Byte := BitVec.ofNat 8 (decAddTotal a m c)

/-- The carry of R175. -/
def decAddCarry (a m : Byte) (c : Bool) : Bool := decide (0x100 ≤ decAddTotal a m c)

/-- `al` of R177 after its correction, an integer. -/
def decSubLow (a m : Byte) (c : Bool) : Int :=
  let al : Int := (lowDigit a : Int) - lowDigit m + c.toNat - 1
  if al < 0 then (al - 6) % 16 - 0x10 else al

/-- `r` of R177 after its correction, an integer. -/
def decSubTotal (a m : Byte) (c : Bool) : Int :=
  let r : Int := (highPart a : Int) - highPart m + decSubLow a m c
  if r < 0 then r - 0x60 else r

/-- The accumulator of R177. Its carry is that of the binary mode, `subCarry`. -/
def decSubByte (a m : Byte) (c : Bool) : Byte := BitVec.ofInt 8 (decSubTotal a m c)

/-- N, V and Z after a decimal ADC (`isSub = false`) or SBC: the parameter `decimalFlags` of R3, whose
default (R176, R178) takes N and Z from the decimal result and V from the binary operation. -/
def decimalNVZ (cfg : Config) (isSub : Bool) (a m : Byte) (cin : Bool) (result : Byte) : NVZ :=
  match cfg.decimalFlags with
  | .byRule =>
    { n := result.msb
      v := if isSub then subOverflow a m cin else addOverflow a m cin
      z := result == 0 }
  | .other k => Config.decimalFlagsOther k cfg.variant isSub a m cin result

/-! ### Status updates -/

/-- P after a binary ADC (R171). -/
def Status.afterAdd (p : Status) (a m : Byte) : Status :=
  { p.setNZ (addByte a m p.c) with c := addCarry a m p.c, v := addOverflow a m p.c }

/-- P after a binary SBC (R173). -/
def Status.afterSub (p : Status) (a m : Byte) : Status :=
  { p.setNZ (subByte a m p.c) with c := subCarry a m p.c, v := subOverflow a m p.c }

/-- P after a decimal operation that answers carry `c` and flags `f` (R175 to R178). -/
def Status.afterDecimal (p : Status) (c : Bool) (f : NVZ) : Status :=
  { p with n := f.n, v := f.v, z := f.z, c := c }

/-- The compare law R183: C = (r >= m) unsigned, Z and N from `(r - m) mod 256`. -/
def Status.compare (p : Status) (r m : Byte) : Status :=
  { p.setNZ (r - m) with c := decide (m.toNat ≤ r.toNat) }

/-- Z from `A & M`, nothing else (BIT Immediate R203, TSB R209, TRB R210). -/
def Status.testBits (p : Status) (a m : Byte) : Status := { p with z := (a &&& m) == 0 }

/-- BIT in a memory mode (R203): Z from `A & M`, N and V from the operand's bits 7 and 6. -/
def Status.bitTest (p : Status) (a m : Byte) : Status :=
  { p.testBits a m with n := m.getLsbD 7, v := m.getLsbD 6 }

/-! ### Shifts and rotates (R204 to R207) -/

/-- ASL's result. -/
def aslByte (m : Byte) : Byte := m <<< 1

/-- LSR's result. -/
def lsrByte (m : Byte) : Byte := m >>> 1

/-- ROL's result `{m[6:0], c}`. -/
def rolByte (c : Bool) (m : Byte) : Byte := m.extractLsb' 0 7 ++ BitVec.ofBool c

/-- ROR's result `{c, m[7:1]}`. -/
def rorByte (c : Bool) (m : Byte) : Byte := BitVec.ofBool c ++ m.extractLsb' 1 7

/-- P after a shift or rotate that shifts out `out` and gives `v`. -/
def Status.afterShift (p : Status) (out : Bool) (v : Byte) : Status := { p.setNZ v with c := out }

/-! ### Single bits (R211, R212) -/

/-- The byte whose bit `n` alone is 1. -/
def bitMask (n : Nat) : Byte := 1#8 <<< n

end Sys2Proof.Machine
end

