-- ==== Sys2Proof/Machine/Ops.lean ====
section
/-! DEFINITION. The shared operations over registers and memory: the primitives of 00_scope.md section 4,
taking an exception (R314) and returning from one (R293). A read is said in two parts: the value it
returns (`peek…`), which changes nothing, and the event it emits (`noteRead…`). -/

namespace Sys2Proof.Machine

/-- What a meaning or a step answers. -/
abbrev Out := Host.Outcome State Fault Refusal

/-! ### Updates, one per field -/

/-- `A <- v`. -/
def State.withA (s : State) (v : Byte) : State := { s with a := v }
/-- `X <- v`. -/
def State.withX (s : State) (v : Byte) : State := { s with x := v }
/-- `Y <- v`. -/
def State.withY (s : State) (v : Byte) : State := { s with y := v }
/-- `S <- v`. -/
def State.withSp (s : State) (v : Byte) : State := { s with sp := v }
/-- `P <- p`. -/
def State.withP (s : State) (p : Status) : State := { s with p := p }
/-- `PC <- w`. -/
def State.withPc (s : State) (w : Word) : State := { s with pc := w }
/-- `mem <- m`. -/
def State.withMem (s : State) (m : Memory) : State := { s with mem := m }
/-- `lock <- l`. -/
def State.withLock (s : State) (l : LockMask) : State := { s with lock := l }
/-- `nmi_pending <- b`. -/
def State.withNmiPending (s : State) (b : Bool) : State := { s with nmiPending := b }
/-- `irq_line <- b`. -/
def State.withIrqLine (s : State) (b : Bool) : State := { s with irqLine := b }
/-- `proceed <- b`. -/
def State.withProceed (s : State) (b : Bool) : State := { s with proceed := b }
/-- `runState <- r`. -/
def State.withRunState (s : State) (r : RunState) : State := { s with runState := r }
/-- `cycles <- n`. -/
def State.withCycles (s : State) (n : BitVec 64) : State := { s with cycles := n }
/-- `emit e` (R332). -/
def State.emit (s : State) (e : Event) : State := { s with trace := e :: s.trace }

/-- `SetNZ(v)` (R130). -/
def State.withNZ (s : State) (v : Byte) : State := s.withP (s.p.setNZ v)

/-- `cycles <- cycles + n`, wrapping modulo 2^64 (R21, D22). -/
def State.tick (s : State) (n : Nat) : State := s.withCycles (s.cycles + BitVec.ofNat 64 n)

/-! ### Memory (R40 to R47) -/

/-- The byte at address `a`, without an event: the value `Read(a)` returns, and the host's peek (R63). -/
def State.peek (s : State) (a : Word) : Byte := s.mem.read a.toNat

/-- `lock[a]`. -/
def State.isLocked (s : State) (a : Word) : Bool := s.lock.locked a.toNat

/-- The event of `Read(a)` (R42). -/
def State.noteRead (s : State) (a : Word) : State := s.emit (.byteRead a (s.peek a))

/-- `Write(a, v)` of R43: refused without effect on a locked address, never an exception. -/
def State.write (s : State) (a : Word) (v : Byte) : State :=
  if s.isLocked a then s.emit (.invalidWrite a v)
  else (s.withMem (s.mem.write a.toNat v)).emit (.byteWritten a v)

/-- The value of `ReadWord(a)` of R46: the second address wraps from 0xFFFF to 0x0000. -/
def State.peekWord (s : State) (a : Word) : Word := joinBytes (s.peek (a + 1)) (s.peek a)

/-- The events of `ReadWord(a)`, low address first (R46, D15). -/
def State.noteReadWord (s : State) (a : Word) : State := (s.noteRead a).noteRead (a + 1)

/-- The value of `ReadWordZP(z)` of R47: both bytes lie in page zero. -/
def State.peekWordZP (s : State) (z : Byte) : Word :=
  joinBytes (s.peek (zext (z + 1))) (s.peek (zext z))

/-- The events of `ReadWordZP(z)`, low address first (R47). -/
def State.noteReadWordZP (s : State) (z : Byte) : State :=
  (s.noteRead (zext z)).noteRead (zext (z + 1))

/-! ### The stack (R14, R131, R132) -/

/-- `0x0100 + S`. -/
def stackAddr (sp : Byte) : Word := 0x0100 + zext sp

/-- `Push(v)` of R131: the write may be refused, S moves all the same. -/
def State.push (s : State) (v : Byte) : State := (s.write (stackAddr s.sp) v).withSp (s.sp - 1)

/-- The byte `Pop()` returns (R132). -/
def State.popValue (s : State) : Byte := s.peek (stackAddr (s.sp + 1))

/-- The state after `Pop()` (R132). -/
def State.popped (s : State) : State := (s.withSp (s.sp + 1)).noteRead (stackAddr (s.sp + 1))

/-! ### Fetching (R106 to R108) -/

/-- The state after `FetchByte()` (R106); the byte it returns is `s.peek s.pc`. -/
def State.fetchByte (s : State) : State := (s.noteRead s.pc).withPc (s.pc + 1)

/-- The state after `n` operand bytes are fetched. -/
def State.fetchBytes : Nat → State → State
  | 0, s => s
  | n + 1, s => State.fetchBytes n s.fetchByte

/-- Parts (2) and (3) of R102 and the operand bytes of part (4): the opcode is fetched,
`instruction-about-to-execute` is emitted, then the `n` operand bytes are fetched. -/
def State.fetchInstr (s : State) (n : Nat) : State :=
  State.fetchBytes n (s.fetchByte.emit (.aboutToExecute s.pc (s.peek s.pc)))

/-! ### Taking an exception, and returning from one -/

/-- `Interrupt(vec, b)` of R314, with PC holding the address to return to: push PC high, PC low and the
status with bit 4 = `b`, set I, load PC from the vector. D and B in the register are unchanged (D12). -/
def State.interrupt (s : State) (vec : Word) (b : Bool) : State :=
  let t := ((s.push (highByte s.pc)).push (lowByte s.pc)).push (s.p.pushedByte b)
  let u := t.withP { t.p with i := true }
  (u.noteReadWord vec).withPc (u.peekWord vec)

/-- The IRQ and BRK vector (R50). -/
def irqVector : Word := 0xFFFE
/-- The NMI vector (R50). -/
def nmiVector : Word := 0xFFFA
/-- The RESET vector (R50). -/
def resetVector : Word := 0xFFFC

/-- The operation of RTI (R293): pull the status (Reserved forced 1), PC low, PC high. -/
def State.returnFromInterrupt (s : State) : State :=
  let t := s.popped.withP (Status.ofByte s.popValue)
  let u := t.popped
  u.popped.withPc (joinBytes u.popValue t.popValue)

/-- The operation of BRK (R292), and of the fallback under AsBRK (R294): skip the padding byte, which
is not read, then enter through 0xFFFE with Break set. -/
def State.softwareInterrupt (s : State) : State := (s.withPc (s.pc + 1)).interrupt irqVector true

/-- NMI entry of R311: clear the latch, enter through 0xFFFA, 7 cycles (R102). -/
def State.enterNmi (s : State) : State :=
  ((s.withNmiPending false).interrupt nmiVector s.cfg.intPushedB).tick 7

/-- IRQ entry of R312: enter through 0xFFFE, 7 cycles (R102); `irq_line` is not changed. -/
def State.enterIrq (s : State) : State := (s.interrupt irqVector s.cfg.intPushedB).tick 7

/-- Interrupt sampling, part (1) of R102: NMI before IRQ (R317), IRQ masked by I (R312). -/
def State.sampleInterrupts (s : State) : Option State :=
  if s.nmiPending then some s.enterNmi
  else if s.irqLine && !s.p.i then some s.enterIrq
  else none

end Sys2Proof.Machine
end

