-- ==== Sys2Proof/Machine/Operands.lean ====
section
/-! DEFINITION. Operand forms: the addressing modes of data (R109 to R120), value operands (R133),
read-modify-write (R133, R208), and the cycle accounting that ends every instruction (R135). -/

namespace Sys2Proof

open Machine

/-- The address before indexing, after any indirection: what R116, R117 and R119 call `base`. -/
def MemOperand.base : MemOperand → State → Word
  | .zp z, _ => zext z
  | .zpX z, s => zext (z + s.x)
  | .zpY z, s => zext (z + s.y)
  | .abs w, _ => w
  | .absX w, _ => w
  | .absY w, _ => w
  | .xInd z, s => s.peekWordZP (z + s.x)
  | .indY z, s => s.peekWordZP z
  | .zpInd z, s => s.peekWordZP z

/-- The effective address of a data mode (R112 to R120). -/
def MemOperand.ea (m : MemOperand) (s : State) : Word :=
  match m with
  | .absX _ => m.base s + zext s.x
  | .absY _ | .indY _ => m.base s + zext s.y
  | .zp _ | .zpX _ | .zpY _ | .abs _ | .xInd _ | .zpInd _ => m.base s

/-- `crossed` of R116, R117 and R119: indexing leaves the page of the base (R125). -/
def MemOperand.crossed (m : MemOperand) (s : State) : Bool := pageDiffers (m.ea s) (m.base s)

/-- The value operand of R133. -/
def Source.value : Source → State → Byte
  | .imm v, _ => v
  | .mem m, s => s.peek (m.ea s)

end Sys2Proof

namespace Sys2Proof.Machine

/-- The pointer reads that resolution makes after the operand bytes (R126). -/
def State.resolve (s : State) : MemOperand → State
  | .xInd z => s.noteReadWordZP (z + s.x)
  | .indY z => s.noteReadWordZP z
  | .zpInd z => s.noteReadWordZP z
  | .zp _ | .zpX _ | .zpY _ | .abs _ | .absX _ | .absY _ => s

/-- The state after a value operand is read: pointer reads, then one data read (R108, R133). -/
def State.noteSource (s : State) : Source → State
  | .imm _ => s
  | .mem m => (s.resolve m).noteRead (m.ea s)

/-- `A <- v; SetNZ(v)`. -/
def State.transferA (s : State) (v : Byte) : State := (s.withA v).withNZ v

/-- `X <- v; SetNZ(v)`. -/
def State.transferX (s : State) (v : Byte) : State := (s.withX v).withNZ v

/-- `Y <- v; SetNZ(v)`. -/
def State.transferY (s : State) (v : Byte) : State := (s.withY v).withNZ v

/-- A read-modify-write (R133, R208): the result `f m` of the byte `m` read goes back to its place, and P
becomes `g P m` whether or not the write is accepted. In Accumulator mode no memory is accessed. -/
def State.modify (s : State) (pl : Place) (f : Byte → Byte) (g : Status → Byte → Status) : State :=
  match pl with
  | .acc => (s.withA (f s.a)).withP (g s.p s.a)
  | .mem m =>
    (((s.noteSource (.mem m)).write (m.ea s) (f (s.peek (m.ea s))))).withP (g s.p (s.peek (m.ea s)))

/-! ### Cycle accounting (R135) -/

/-- R135 (a): one cycle when the opcode is marked `+p` and indexing crossed a page. -/
def State.pagePenalty (s : State) (i : Instr) : Nat :=
  match i.operand with
  | .mem m => if (i.cost s.cfg.variant).pageCross && m.crossed s then 1 else 0
  | _ => 0

/-- What the instruction adds to `cycles`: base, and when PENALTY_CYCLES the page-crossing penalty and the
`extra` penalties of its family. -/
def State.cost (s : State) (i : Instr) (extra : Nat) : Nat :=
  (i.cost s.cfg.variant).base + if s.cfg.penaltyCycles then s.pagePenalty i + extra else 0

/-- The end of an executed instruction: `t` is the state its handler leaves from `s`, and its cycles are
added (R102 part 6). -/
def complete (i : Instr) (extra : Nat) (s t : State) : Out := .next (t.tick (s.cost i extra))

end Sys2Proof.Machine
end

