-- ==== Sys2Proof/Machine/Arithmetic.lean ====
section
/-! DEFINITION. Arithmetic, compare, increment and decrement instructions (42_arithmetic.md, R170 to R190). -/

namespace Sys2Proof.Machine

/-! ### The shared operations -/

/-- ADC's operation (R170): binary (R171) when D = 0, decimal (R175, R176) when D = 1. -/
def State.adc (src : Source) (s : State) : State :=
  let m := src.value s
  let t := s.noteSource src
  if s.p.d then
    let r := decAddByte s.a m s.p.c
    (t.withA r).withP
      (s.p.afterDecimal (decAddCarry s.a m s.p.c) (decimalNVZ s.cfg false s.a m s.p.c r))
  else (t.withA (addByte s.a m s.p.c)).withP (s.p.afterAdd s.a m)

/-- SBC's operation (R172): binary (R173) when D = 0, decimal (R177, R178) when D = 1. -/
def State.sbc (src : Source) (s : State) : State :=
  let m := src.value s
  let t := s.noteSource src
  if s.p.d then
    let r := decSubByte s.a m s.p.c
    (t.withA r).withP
      (s.p.afterDecimal (subCarry s.a m s.p.c) (decimalNVZ s.cfg true s.a m s.p.c r))
  else (t.withA (subByte s.a m s.p.c)).withP (s.p.afterSub s.a m)

/-- One more cycle on CMOS65C02 for an ADC or SBC executed with D = 1 (R135 (d), D25). -/
def State.decimalPenalty (s : State) : Nat :=
  if s.p.d && s.cfg.variant == .cmos65c02 then 1 else 0

/-- A compare of the register value `r` (R183). -/
def State.compareWith (s : State) (r : Byte) (src : Source) : State :=
  (s.noteSource src).withP (s.p.compare r (src.value s))

/-- INC's operation (R184). -/
def State.inc (pl : Place) (s : State) : State := s.modify pl (· + 1) fun p v => p.setNZ (v + 1)

/-- DEC's operation (R185). -/
def State.dec (pl : Place) (s : State) : State := s.modify pl (· - 1) fun p v => p.setNZ (v - 1)

/-! ### The instructions -/

/-- ADC XIndexed, 0x61: R170. -/
def execAdcXInd (z : Byte) (s : State) : Out := complete (.adcXInd z) s.decimalPenalty s (s.adc (.mem (.xInd z)))

/-- ADC ZeroPage, 0x65: R170. -/
def execAdcZp (z : Byte) (s : State) : Out := complete (.adcZp z) s.decimalPenalty s (s.adc (.mem (.zp z)))

/-- ADC Immediate, 0x69: R170. -/
def execAdcImm (v : Byte) (s : State) : Out := complete (.adcImm v) s.decimalPenalty s (s.adc (.imm v))

/-- ADC Absolute, 0x6D: R170. -/
def execAdcAbs (w : Word) (s : State) : Out := complete (.adcAbs w) s.decimalPenalty s (s.adc (.mem (.abs w)))

/-- ADC IndexedY, 0x71: R170. -/
def execAdcIndY (z : Byte) (s : State) : Out := complete (.adcIndY z) s.decimalPenalty s (s.adc (.mem (.indY z)))

/-- ADC ZeroPageIndirect, 0x72 (CMOS65C02): R170. -/
def execAdcZpInd (z : Byte) (s : State) : Out := complete (.adcZpInd z) s.decimalPenalty s (s.adc (.mem (.zpInd z)))

/-- ADC ZeroPageX, 0x75: R170. -/
def execAdcZpX (z : Byte) (s : State) : Out := complete (.adcZpX z) s.decimalPenalty s (s.adc (.mem (.zpX z)))

/-- ADC AbsoluteY, 0x79: R170. -/
def execAdcAbsY (w : Word) (s : State) : Out := complete (.adcAbsY w) s.decimalPenalty s (s.adc (.mem (.absY w)))

/-- ADC AbsoluteX, 0x7D: R170. -/
def execAdcAbsX (w : Word) (s : State) : Out := complete (.adcAbsX w) s.decimalPenalty s (s.adc (.mem (.absX w)))

/-- SBC XIndexed, 0xE1: R172. -/
def execSbcXInd (z : Byte) (s : State) : Out := complete (.sbcXInd z) s.decimalPenalty s (s.sbc (.mem (.xInd z)))

/-- SBC ZeroPage, 0xE5: R172. -/
def execSbcZp (z : Byte) (s : State) : Out := complete (.sbcZp z) s.decimalPenalty s (s.sbc (.mem (.zp z)))

/-- SBC Immediate, 0xE9: R172. -/
def execSbcImm (v : Byte) (s : State) : Out := complete (.sbcImm v) s.decimalPenalty s (s.sbc (.imm v))

/-- SBC Absolute, 0xED: R172. -/
def execSbcAbs (w : Word) (s : State) : Out := complete (.sbcAbs w) s.decimalPenalty s (s.sbc (.mem (.abs w)))

/-- SBC IndexedY, 0xF1: R172. -/
def execSbcIndY (z : Byte) (s : State) : Out := complete (.sbcIndY z) s.decimalPenalty s (s.sbc (.mem (.indY z)))

/-- SBC ZeroPageIndirect, 0xF2 (CMOS65C02): R172. -/
def execSbcZpInd (z : Byte) (s : State) : Out := complete (.sbcZpInd z) s.decimalPenalty s (s.sbc (.mem (.zpInd z)))

/-- SBC ZeroPageX, 0xF5: R172. -/
def execSbcZpX (z : Byte) (s : State) : Out := complete (.sbcZpX z) s.decimalPenalty s (s.sbc (.mem (.zpX z)))

/-- SBC AbsoluteY, 0xF9: R172. -/
def execSbcAbsY (w : Word) (s : State) : Out := complete (.sbcAbsY w) s.decimalPenalty s (s.sbc (.mem (.absY w)))

/-- SBC AbsoluteX, 0xFD: R172. -/
def execSbcAbsX (w : Word) (s : State) : Out := complete (.sbcAbsX w) s.decimalPenalty s (s.sbc (.mem (.absX w)))

/-- CMP XIndexed, 0xC1: R180. -/
def execCmpXInd (z : Byte) (s : State) : Out := complete (.cmpXInd z) 0 s (s.compareWith s.a (.mem (.xInd z)))

/-- CMP ZeroPage, 0xC5: R180. -/
def execCmpZp (z : Byte) (s : State) : Out := complete (.cmpZp z) 0 s (s.compareWith s.a (.mem (.zp z)))

/-- CMP Immediate, 0xC9: R180. -/
def execCmpImm (v : Byte) (s : State) : Out := complete (.cmpImm v) 0 s (s.compareWith s.a (.imm v))

/-- CMP Absolute, 0xCD: R180. -/
def execCmpAbs (w : Word) (s : State) : Out := complete (.cmpAbs w) 0 s (s.compareWith s.a (.mem (.abs w)))

/-- CMP IndexedY, 0xD1: R180. -/
def execCmpIndY (z : Byte) (s : State) : Out := complete (.cmpIndY z) 0 s (s.compareWith s.a (.mem (.indY z)))

/-- CMP ZeroPageIndirect, 0xD2 (CMOS65C02): R180. -/
def execCmpZpInd (z : Byte) (s : State) : Out := complete (.cmpZpInd z) 0 s (s.compareWith s.a (.mem (.zpInd z)))

/-- CMP ZeroPageX, 0xD5: R180. -/
def execCmpZpX (z : Byte) (s : State) : Out := complete (.cmpZpX z) 0 s (s.compareWith s.a (.mem (.zpX z)))

/-- CMP AbsoluteY, 0xD9: R180. -/
def execCmpAbsY (w : Word) (s : State) : Out := complete (.cmpAbsY w) 0 s (s.compareWith s.a (.mem (.absY w)))

/-- CMP AbsoluteX, 0xDD: R180. -/
def execCmpAbsX (w : Word) (s : State) : Out := complete (.cmpAbsX w) 0 s (s.compareWith s.a (.mem (.absX w)))

/-- CPX Immediate, 0xE0: R181. -/
def execCpxImm (v : Byte) (s : State) : Out := complete (.cpxImm v) 0 s (s.compareWith s.x (.imm v))

/-- CPX ZeroPage, 0xE4: R181. -/
def execCpxZp (z : Byte) (s : State) : Out := complete (.cpxZp z) 0 s (s.compareWith s.x (.mem (.zp z)))

/-- CPX Absolute, 0xEC: R181. -/
def execCpxAbs (w : Word) (s : State) : Out := complete (.cpxAbs w) 0 s (s.compareWith s.x (.mem (.abs w)))

/-- CPY Immediate, 0xC0: R182. -/
def execCpyImm (v : Byte) (s : State) : Out := complete (.cpyImm v) 0 s (s.compareWith s.y (.imm v))

/-- CPY ZeroPage, 0xC4: R182. -/
def execCpyZp (z : Byte) (s : State) : Out := complete (.cpyZp z) 0 s (s.compareWith s.y (.mem (.zp z)))

/-- CPY Absolute, 0xCC: R182. -/
def execCpyAbs (w : Word) (s : State) : Out := complete (.cpyAbs w) 0 s (s.compareWith s.y (.mem (.abs w)))

/-- INC Accumulator, 0x1A (CMOS65C02): R184. -/
def execIncAcc (s : State) : Out := complete .incAcc 0 s (s.inc .acc)

/-- INC ZeroPage, 0xE6: R184. -/
def execIncZp (z : Byte) (s : State) : Out := complete (.incZp z) 0 s (s.inc (.mem (.zp z)))

/-- INC Absolute, 0xEE: R184. -/
def execIncAbs (w : Word) (s : State) : Out := complete (.incAbs w) 0 s (s.inc (.mem (.abs w)))

/-- INC ZeroPageX, 0xF6: R184. -/
def execIncZpX (z : Byte) (s : State) : Out := complete (.incZpX z) 0 s (s.inc (.mem (.zpX z)))

/-- INC AbsoluteX, 0xFE: R184. -/
def execIncAbsX (w : Word) (s : State) : Out := complete (.incAbsX w) 0 s (s.inc (.mem (.absX w)))

/-- DEC Accumulator, 0x3A (CMOS65C02): R185. -/
def execDecAcc (s : State) : Out := complete .decAcc 0 s (s.dec .acc)

/-- DEC ZeroPage, 0xC6: R185. -/
def execDecZp (z : Byte) (s : State) : Out := complete (.decZp z) 0 s (s.dec (.mem (.zp z)))

/-- DEC Absolute, 0xCE: R185. -/
def execDecAbs (w : Word) (s : State) : Out := complete (.decAbs w) 0 s (s.dec (.mem (.abs w)))

/-- DEC ZeroPageX, 0xD6: R185. -/
def execDecZpX (z : Byte) (s : State) : Out := complete (.decZpX z) 0 s (s.dec (.mem (.zpX z)))

/-- DEC AbsoluteX, 0xDE: R185. -/
def execDecAbsX (w : Word) (s : State) : Out := complete (.decAbsX w) 0 s (s.dec (.mem (.absX w)))

/-- INX, 0xE8: R186. -/
def execInx (s : State) : Out := complete .inx 0 s (s.transferX (s.x + 1))

/-- INY, 0xC8: R187. -/
def execIny (s : State) : Out := complete .iny 0 s (s.transferY (s.y + 1))

/-- DEX, 0xCA: R188. -/
def execDex (s : State) : Out := complete .dex 0 s (s.transferX (s.x - 1))

/-- DEY, 0x88: R189. -/
def execDey (s : State) : Out := complete .dey 0 s (s.transferY (s.y - 1))

end Sys2Proof.Machine
end

