-- ==== Sys2Proof/Machine/Bits65C02.lean ====
section
/-! DEFINITION. The bit-manipulation instructions of CMOS65C02 (43_logic_shift_bit.md, R209 to R212). -/

namespace Sys2Proof.Machine

/-! ### The shared operations -/

/-- TSB's operation (R209): Z from `A & M`, then `M | A` is written. -/
def State.tsb (m : MemOperand) (s : State) : State :=
  s.modify (.mem m) (· ||| s.a) fun p v => p.testBits s.a v

/-- TRB's operation (R210): Z from `A & M`, then `M & ~A` is written. -/
def State.trb (m : MemOperand) (s : State) : State :=
  s.modify (.mem m) (· &&& ~~~s.a) fun p v => p.testBits s.a v

/-- RMBn and SMBn (R211, R212): one read, one write, no flag. -/
def State.modifyMem (s : State) (m : MemOperand) (f : Byte → Byte) : State :=
  s.modify (.mem m) f fun p _ => p

/-! ### The instructions -/

/-- TSB ZeroPage, 0x04 (CMOS65C02): R209. -/
def execTsbZp (z : Byte) (s : State) : Out := complete (.tsbZp z) 0 s (s.tsb (.zp z))

/-- TSB Absolute, 0x0C (CMOS65C02): R209. -/
def execTsbAbs (w : Word) (s : State) : Out := complete (.tsbAbs w) 0 s (s.tsb (.abs w))

/-- TRB ZeroPage, 0x14 (CMOS65C02): R210. -/
def execTrbZp (z : Byte) (s : State) : Out := complete (.trbZp z) 0 s (s.trb (.zp z))

/-- TRB Absolute, 0x1C (CMOS65C02): R210. -/
def execTrbAbs (w : Word) (s : State) : Out := complete (.trbAbs w) 0 s (s.trb (.abs w))

/-- RMB0 ZeroPage, 0x07 (CMOS65C02): R211. -/
def execRmb0 (z : Byte) (s : State) : Out := complete (.rmb0 z) 0 s (s.modifyMem (.zp z) (· &&& ~~~(bitMask 0)))

/-- RMB1 ZeroPage, 0x17 (CMOS65C02): R211. -/
def execRmb1 (z : Byte) (s : State) : Out := complete (.rmb1 z) 0 s (s.modifyMem (.zp z) (· &&& ~~~(bitMask 1)))

/-- RMB2 ZeroPage, 0x27 (CMOS65C02): R211. -/
def execRmb2 (z : Byte) (s : State) : Out := complete (.rmb2 z) 0 s (s.modifyMem (.zp z) (· &&& ~~~(bitMask 2)))

/-- RMB3 ZeroPage, 0x37 (CMOS65C02): R211. -/
def execRmb3 (z : Byte) (s : State) : Out := complete (.rmb3 z) 0 s (s.modifyMem (.zp z) (· &&& ~~~(bitMask 3)))

/-- RMB4 ZeroPage, 0x47 (CMOS65C02): R211. -/
def execRmb4 (z : Byte) (s : State) : Out := complete (.rmb4 z) 0 s (s.modifyMem (.zp z) (· &&& ~~~(bitMask 4)))

/-- RMB5 ZeroPage, 0x57 (CMOS65C02): R211. -/
def execRmb5 (z : Byte) (s : State) : Out := complete (.rmb5 z) 0 s (s.modifyMem (.zp z) (· &&& ~~~(bitMask 5)))

/-- RMB6 ZeroPage, 0x67 (CMOS65C02): R211. -/
def execRmb6 (z : Byte) (s : State) : Out := complete (.rmb6 z) 0 s (s.modifyMem (.zp z) (· &&& ~~~(bitMask 6)))

/-- RMB7 ZeroPage, 0x77 (CMOS65C02): R211. -/
def execRmb7 (z : Byte) (s : State) : Out := complete (.rmb7 z) 0 s (s.modifyMem (.zp z) (· &&& ~~~(bitMask 7)))

/-- SMB0 ZeroPage, 0x87 (CMOS65C02): R212. -/
def execSmb0 (z : Byte) (s : State) : Out := complete (.smb0 z) 0 s (s.modifyMem (.zp z) (· ||| bitMask 0))

/-- SMB1 ZeroPage, 0x97 (CMOS65C02): R212. -/
def execSmb1 (z : Byte) (s : State) : Out := complete (.smb1 z) 0 s (s.modifyMem (.zp z) (· ||| bitMask 1))

/-- SMB2 ZeroPage, 0xA7 (CMOS65C02): R212. -/
def execSmb2 (z : Byte) (s : State) : Out := complete (.smb2 z) 0 s (s.modifyMem (.zp z) (· ||| bitMask 2))

/-- SMB3 ZeroPage, 0xB7 (CMOS65C02): R212. -/
def execSmb3 (z : Byte) (s : State) : Out := complete (.smb3 z) 0 s (s.modifyMem (.zp z) (· ||| bitMask 3))

/-- SMB4 ZeroPage, 0xC7 (CMOS65C02): R212. -/
def execSmb4 (z : Byte) (s : State) : Out := complete (.smb4 z) 0 s (s.modifyMem (.zp z) (· ||| bitMask 4))

/-- SMB5 ZeroPage, 0xD7 (CMOS65C02): R212. -/
def execSmb5 (z : Byte) (s : State) : Out := complete (.smb5 z) 0 s (s.modifyMem (.zp z) (· ||| bitMask 5))

/-- SMB6 ZeroPage, 0xE7 (CMOS65C02): R212. -/
def execSmb6 (z : Byte) (s : State) : Out := complete (.smb6 z) 0 s (s.modifyMem (.zp z) (· ||| bitMask 6))

/-- SMB7 ZeroPage, 0xF7 (CMOS65C02): R212. -/
def execSmb7 (z : Byte) (s : State) : Out := complete (.smb7 z) 0 s (s.modifyMem (.zp z) (· ||| bitMask 7))

end Sys2Proof.Machine
end

