-- ==== Sys2Proof/Machine/Branch.lean ====
section
/-! DEFINITION. Relative and bit branches (44_branch_jump.md, R240 to R251). -/

namespace Sys2Proof.Machine

/-! ### The shared operations. PC is the address after the operand bytes (R108, R121, R122). -/

/-- The branch target: `(PC + sext_16(d)) mod 65536` (R121, R122). -/
def State.branchTarget (s : State) (d : Byte) : Word := s.pc + sext d

/-- One cycle more when the target lies on another page than PC (R125, R135). -/
def State.branchCrossing (s : State) (d : Byte) : Nat :=
  if pageDiffers (s.branchTarget d) s.pc then 1 else 0

/-- A conditional branch: `if cond then PC <- target` (R240), one cycle more if taken and one more if
taken across a page (R135 (b)). -/
def State.branch (i : Instr) (taken : Bool) (d : Byte) (s : State) : Out :=
  if taken then complete i (1 + s.branchCrossing d) s (s.withPc (s.branchTarget d))
  else complete i 0 s s

/-- BRA (R249): always taken, no cycle for being taken (R135 (c)). -/
def State.branchAlways (i : Instr) (d : Byte) (s : State) : Out :=
  complete i (s.branchCrossing d) s (s.withPc (s.branchTarget d))

/-- BBRn and BBSn (R250, R251): read the zero-page byte, branch if its bit `n` is `want`. -/
def State.bitBranch (i : Instr) (z : Byte) (n : Nat) (want : Bool) (d : Byte) (s : State) : Out :=
  let t := s.noteRead (zext z)
  if (s.peek (zext z)).getLsbD n == want then
    complete i (1 + s.branchCrossing d) s (t.withPc (s.branchTarget d))
  else complete i 0 s t

/-! ### The instructions -/

/-- BPL, 0x10: R241. -/
def execBpl (d : Byte) (s : State) : Out := State.branch (.bpl d) (!s.p.n) d s

/-- BMI, 0x30: R242. -/
def execBmi (d : Byte) (s : State) : Out := State.branch (.bmi d) s.p.n d s

/-- BVC, 0x50: R243. -/
def execBvc (d : Byte) (s : State) : Out := State.branch (.bvc d) (!s.p.v) d s

/-- BVS, 0x70: R244. -/
def execBvs (d : Byte) (s : State) : Out := State.branch (.bvs d) s.p.v d s

/-- BCC, 0x90: R245. -/
def execBcc (d : Byte) (s : State) : Out := State.branch (.bcc d) (!s.p.c) d s

/-- BCS, 0xB0: R246. -/
def execBcs (d : Byte) (s : State) : Out := State.branch (.bcs d) s.p.c d s

/-- BNE, 0xD0: R247. -/
def execBne (d : Byte) (s : State) : Out := State.branch (.bne d) (!s.p.z) d s

/-- BEQ, 0xF0: R248. -/
def execBeq (d : Byte) (s : State) : Out := State.branch (.beq d) s.p.z d s

/-- BRA, 0x80 (CMOS65C02): R249. -/
def execBra (d : Byte) (s : State) : Out := State.branchAlways (.bra d) d s

/-- BBR0, 0x0F (CMOS65C02): R250. -/
def execBbr0 (z : Byte) (d : Byte) (s : State) : Out := State.bitBranch (.bbr0 z d) z 0 false d s

/-- BBR1, 0x1F (CMOS65C02): R250. -/
def execBbr1 (z : Byte) (d : Byte) (s : State) : Out := State.bitBranch (.bbr1 z d) z 1 false d s

/-- BBR2, 0x2F (CMOS65C02): R250. -/
def execBbr2 (z : Byte) (d : Byte) (s : State) : Out := State.bitBranch (.bbr2 z d) z 2 false d s

/-- BBR3, 0x3F (CMOS65C02): R250. -/
def execBbr3 (z : Byte) (d : Byte) (s : State) : Out := State.bitBranch (.bbr3 z d) z 3 false d s

/-- BBR4, 0x4F (CMOS65C02): R250. -/
def execBbr4 (z : Byte) (d : Byte) (s : State) : Out := State.bitBranch (.bbr4 z d) z 4 false d s

/-- BBR5, 0x5F (CMOS65C02): R250. -/
def execBbr5 (z : Byte) (d : Byte) (s : State) : Out := State.bitBranch (.bbr5 z d) z 5 false d s

/-- BBR6, 0x6F (CMOS65C02): R250. -/
def execBbr6 (z : Byte) (d : Byte) (s : State) : Out := State.bitBranch (.bbr6 z d) z 6 false d s

/-- BBR7, 0x7F (CMOS65C02): R250. -/
def execBbr7 (z : Byte) (d : Byte) (s : State) : Out := State.bitBranch (.bbr7 z d) z 7 false d s

/-- BBS0, 0x8F (CMOS65C02): R251. -/
def execBbs0 (z : Byte) (d : Byte) (s : State) : Out := State.bitBranch (.bbs0 z d) z 0 true d s

/-- BBS1, 0x9F (CMOS65C02): R251. -/
def execBbs1 (z : Byte) (d : Byte) (s : State) : Out := State.bitBranch (.bbs1 z d) z 1 true d s

/-- BBS2, 0xAF (CMOS65C02): R251. -/
def execBbs2 (z : Byte) (d : Byte) (s : State) : Out := State.bitBranch (.bbs2 z d) z 2 true d s

/-- BBS3, 0xBF (CMOS65C02): R251. -/
def execBbs3 (z : Byte) (d : Byte) (s : State) : Out := State.bitBranch (.bbs3 z d) z 3 true d s

/-- BBS4, 0xCF (CMOS65C02): R251. -/
def execBbs4 (z : Byte) (d : Byte) (s : State) : Out := State.bitBranch (.bbs4 z d) z 4 true d s

/-- BBS5, 0xDF (CMOS65C02): R251. -/
def execBbs5 (z : Byte) (d : Byte) (s : State) : Out := State.bitBranch (.bbs5 z d) z 5 true d s

/-- BBS6, 0xEF (CMOS65C02): R251. -/
def execBbs6 (z : Byte) (d : Byte) (s : State) : Out := State.bitBranch (.bbs6 z d) z 6 true d s

/-- BBS7, 0xFF (CMOS65C02): R251. -/
def execBbs7 (z : Byte) (d : Byte) (s : State) : Out := State.bitBranch (.bbs7 z d) z 7 true d s

end Sys2Proof.Machine
end

