-- ==== Sys2Proof/Machine/FlagOps.lean ====
section
/-! DEFINITION. Flag instructions (45_stack_flags_system.md, R280 to R286). -/

namespace Sys2Proof.Machine

/-- CLC, 0x18: R280. -/
def execClc (s : State) : Out := complete .clc 0 s (s.withP { s.p with c := false })

/-- SEC, 0x38: R281. -/
def execSec (s : State) : Out := complete .sec 0 s (s.withP { s.p with c := true })

/-- CLI, 0x58: R282. -/
def execCli (s : State) : Out := complete .cli 0 s (s.withP { s.p with i := false })

/-- SEI, 0x78: R283. -/
def execSei (s : State) : Out := complete .sei 0 s (s.withP { s.p with i := true })

/-- CLV, 0xB8: R284. -/
def execClv (s : State) : Out := complete .clv 0 s (s.withP { s.p with v := false })

/-- CLD, 0xD8: R285. -/
def execCld (s : State) : Out := complete .cld 0 s (s.withP { s.p with d := false })

/-- SED, 0xF8: R286. -/
def execSed (s : State) : Out := complete .sed 0 s (s.withP { s.p with d := true })

end Sys2Proof.Machine
end

