-- ==== Sys2Proof/Machine/Jump.lean ====
section
/-! DEFINITION. JMP, JSR and RTS (44_branch_jump.md, R252 to R254). -/

namespace Sys2Proof.Machine

/-! ### The shared operations -/

/-- The address of the high byte of an Indirect pointer (R123): NMOS stays in the pointer's page. -/
def State.indirectHigh (s : State) (ptr : Word) : Word :=
  match s.cfg.variant with
  | .nmos6502 => joinBytes (highByte ptr) (lowByte ptr + 1)
  | .cmos65c02 => ptr + 1

/-- JMP Indirect (R123, R252): low byte read first. -/
def State.jumpIndirect (ptr : Word) (s : State) : State :=
  ((s.noteRead ptr).noteRead (s.indirectHigh ptr)).withPc
    (joinBytes (s.peek (s.indirectHigh ptr)) (s.peek ptr))

/-- JMP AbsoluteXIndirect (R124, R252): the pointer is at `w + X`, with no page wrap. -/
def State.jumpIndexedIndirect (w : Word) (s : State) : State :=
  (s.noteReadWord (w + zext s.x)).withPc (s.peekWord (w + zext s.x))

/-- JSR (R253): push the address of its last byte, high byte first, then jump. -/
def State.callSubroutine (w : Word) (s : State) : State :=
  let ret := s.pc - 1
  ((s.push (highByte ret)).push (lowByte ret)).withPc w

/-- RTS (R254): pull low, pull high, add one. -/
def State.returnFromSubroutine (s : State) : State :=
  let t := s.popped
  t.popped.withPc (joinBytes t.popValue s.popValue + 1)

/-! ### The instructions -/

/-- JMP Absolute, 0x4C: R252. -/
def execJmpAbs (w : Word) (s : State) : Out := complete (.jmpAbs w) 0 s (s.withPc w)

/-- JMP Indirect, 0x6C: R252. -/
def execJmpInd (w : Word) (s : State) : Out := complete (.jmpInd w) 0 s (s.jumpIndirect w)

/-- JMP AbsoluteXIndirect, 0x7C (CMOS65C02): R252. -/
def execJmpAbsXInd (w : Word) (s : State) : Out := complete (.jmpAbsXInd w) 0 s (s.jumpIndexedIndirect w)

/-- JSR Absolute, 0x20: R253. -/
def execJsr (w : Word) (s : State) : Out := complete (.jsr w) 0 s (s.callSubroutine w)

/-- RTS, 0x60: R254. -/
def execRts (s : State) : Out := complete .rts 0 s s.returnFromSubroutine

end Sys2Proof.Machine
end

