-- ==== Sys2Proof/Machine/LoadStore.lean ====
section
/-! DEFINITION. Load, store and register-transfer instructions (41_load_store_transfer.md, R140 to R153). -/

namespace Sys2Proof.Machine

/-! ### The shared operations -/

/-- LDA's operation: `A <- Operand; SetNZ(A)` (R141). -/
def State.loadA (src : Source) (s : State) : State := (s.noteSource src).transferA (src.value s)

/-- LDX's operation (R142). -/
def State.loadX (src : Source) (s : State) : State := (s.noteSource src).transferX (src.value s)

/-- LDY's operation (R143). -/
def State.loadY (src : Source) (s : State) : State := (s.noteSource src).transferY (src.value s)

/-- A store: `Write(ea, v)`, with no data read (R144 to R147). -/
def State.store (m : MemOperand) (v : Byte) (s : State) : State := (s.resolve m).write (m.ea s) v

/-! ### The instructions -/

/-- LDA XIndexed, 0xA1: R141. -/
def execLdaXInd (z : Byte) (s : State) : Out := complete (.ldaXInd z) 0 s (s.loadA (.mem (.xInd z)))

/-- LDA ZeroPage, 0xA5: R141. -/
def execLdaZp (z : Byte) (s : State) : Out := complete (.ldaZp z) 0 s (s.loadA (.mem (.zp z)))

/-- LDA Immediate, 0xA9: R141. -/
def execLdaImm (v : Byte) (s : State) : Out := complete (.ldaImm v) 0 s (s.loadA (.imm v))

/-- LDA Absolute, 0xAD: R141. -/
def execLdaAbs (w : Word) (s : State) : Out := complete (.ldaAbs w) 0 s (s.loadA (.mem (.abs w)))

/-- LDA IndexedY, 0xB1: R141. -/
def execLdaIndY (z : Byte) (s : State) : Out := complete (.ldaIndY z) 0 s (s.loadA (.mem (.indY z)))

/-- LDA ZeroPageIndirect, 0xB2 (CMOS65C02): R141. -/
def execLdaZpInd (z : Byte) (s : State) : Out := complete (.ldaZpInd z) 0 s (s.loadA (.mem (.zpInd z)))

/-- LDA ZeroPageX, 0xB5: R141. -/
def execLdaZpX (z : Byte) (s : State) : Out := complete (.ldaZpX z) 0 s (s.loadA (.mem (.zpX z)))

/-- LDA AbsoluteY, 0xB9: R141. -/
def execLdaAbsY (w : Word) (s : State) : Out := complete (.ldaAbsY w) 0 s (s.loadA (.mem (.absY w)))

/-- LDA AbsoluteX, 0xBD: R141. -/
def execLdaAbsX (w : Word) (s : State) : Out := complete (.ldaAbsX w) 0 s (s.loadA (.mem (.absX w)))

/-- LDX Immediate, 0xA2: R142. -/
def execLdxImm (v : Byte) (s : State) : Out := complete (.ldxImm v) 0 s (s.loadX (.imm v))

/-- LDX ZeroPage, 0xA6: R142. -/
def execLdxZp (z : Byte) (s : State) : Out := complete (.ldxZp z) 0 s (s.loadX (.mem (.zp z)))

/-- LDX Absolute, 0xAE: R142. -/
def execLdxAbs (w : Word) (s : State) : Out := complete (.ldxAbs w) 0 s (s.loadX (.mem (.abs w)))

/-- LDX ZeroPageY, 0xB6: R142. -/
def execLdxZpY (z : Byte) (s : State) : Out := complete (.ldxZpY z) 0 s (s.loadX (.mem (.zpY z)))

/-- LDX AbsoluteY, 0xBE: R142. -/
def execLdxAbsY (w : Word) (s : State) : Out := complete (.ldxAbsY w) 0 s (s.loadX (.mem (.absY w)))

/-- LDY Immediate, 0xA0: R143. -/
def execLdyImm (v : Byte) (s : State) : Out := complete (.ldyImm v) 0 s (s.loadY (.imm v))

/-- LDY ZeroPage, 0xA4: R143. -/
def execLdyZp (z : Byte) (s : State) : Out := complete (.ldyZp z) 0 s (s.loadY (.mem (.zp z)))

/-- LDY Absolute, 0xAC: R143. -/
def execLdyAbs (w : Word) (s : State) : Out := complete (.ldyAbs w) 0 s (s.loadY (.mem (.abs w)))

/-- LDY ZeroPageX, 0xB4: R143. -/
def execLdyZpX (z : Byte) (s : State) : Out := complete (.ldyZpX z) 0 s (s.loadY (.mem (.zpX z)))

/-- LDY AbsoluteX, 0xBC: R143. -/
def execLdyAbsX (w : Word) (s : State) : Out := complete (.ldyAbsX w) 0 s (s.loadY (.mem (.absX w)))

/-- STA XIndexed, 0x81: R144. -/
def execStaXInd (z : Byte) (s : State) : Out := complete (.staXInd z) 0 s (s.store (.xInd z) s.a)

/-- STA ZeroPage, 0x85: R144. -/
def execStaZp (z : Byte) (s : State) : Out := complete (.staZp z) 0 s (s.store (.zp z) s.a)

/-- STA Absolute, 0x8D: R144. -/
def execStaAbs (w : Word) (s : State) : Out := complete (.staAbs w) 0 s (s.store (.abs w) s.a)

/-- STA IndexedY, 0x91: R144. -/
def execStaIndY (z : Byte) (s : State) : Out := complete (.staIndY z) 0 s (s.store (.indY z) s.a)

/-- STA ZeroPageIndirect, 0x92 (CMOS65C02): R144. -/
def execStaZpInd (z : Byte) (s : State) : Out := complete (.staZpInd z) 0 s (s.store (.zpInd z) s.a)

/-- STA ZeroPageX, 0x95: R144. -/
def execStaZpX (z : Byte) (s : State) : Out := complete (.staZpX z) 0 s (s.store (.zpX z) s.a)

/-- STA AbsoluteY, 0x99: R144. -/
def execStaAbsY (w : Word) (s : State) : Out := complete (.staAbsY w) 0 s (s.store (.absY w) s.a)

/-- STA AbsoluteX, 0x9D: R144. -/
def execStaAbsX (w : Word) (s : State) : Out := complete (.staAbsX w) 0 s (s.store (.absX w) s.a)

/-- STX ZeroPage, 0x86: R145. -/
def execStxZp (z : Byte) (s : State) : Out := complete (.stxZp z) 0 s (s.store (.zp z) s.x)

/-- STX Absolute, 0x8E: R145. -/
def execStxAbs (w : Word) (s : State) : Out := complete (.stxAbs w) 0 s (s.store (.abs w) s.x)

/-- STX ZeroPageY, 0x96: R145. -/
def execStxZpY (z : Byte) (s : State) : Out := complete (.stxZpY z) 0 s (s.store (.zpY z) s.x)

/-- STY ZeroPage, 0x84: R146. -/
def execStyZp (z : Byte) (s : State) : Out := complete (.styZp z) 0 s (s.store (.zp z) s.y)

/-- STY Absolute, 0x8C: R146. -/
def execStyAbs (w : Word) (s : State) : Out := complete (.styAbs w) 0 s (s.store (.abs w) s.y)

/-- STY ZeroPageX, 0x94: R146. -/
def execStyZpX (z : Byte) (s : State) : Out := complete (.styZpX z) 0 s (s.store (.zpX z) s.y)

/-- STZ ZeroPage, 0x64 (CMOS65C02): R147. -/
def execStzZp (z : Byte) (s : State) : Out := complete (.stzZp z) 0 s (s.store (.zp z) 0x00)

/-- STZ ZeroPageX, 0x74 (CMOS65C02): R147. -/
def execStzZpX (z : Byte) (s : State) : Out := complete (.stzZpX z) 0 s (s.store (.zpX z) 0x00)

/-- STZ Absolute, 0x9C (CMOS65C02): R147. -/
def execStzAbs (w : Word) (s : State) : Out := complete (.stzAbs w) 0 s (s.store (.abs w) 0x00)

/-- STZ AbsoluteX, 0x9E (CMOS65C02): R147. -/
def execStzAbsX (w : Word) (s : State) : Out := complete (.stzAbsX w) 0 s (s.store (.absX w) 0x00)

/-- TAX, 0xAA: R148. -/
def execTax (s : State) : Out := complete .tax 0 s (s.transferX s.a)

/-- TAY, 0xA8: R149. -/
def execTay (s : State) : Out := complete .tay 0 s (s.transferY s.a)

/-- TXA, 0x8A: R150. -/
def execTxa (s : State) : Out := complete .txa 0 s (s.transferA s.x)

/-- TYA, 0x98: R151. -/
def execTya (s : State) : Out := complete .tya 0 s (s.transferA s.y)

/-- TSX, 0xBA: R152. -/
def execTsx (s : State) : Out := complete .tsx 0 s (s.transferX s.sp)

/-- TXS, 0x9A: R153. -/
def execTxs (s : State) : Out := complete .txs 0 s (s.withSp s.x)

end Sys2Proof.Machine
end

