-- ==== Sys2Proof/Machine/Logic.lean ====
section
/-! DEFINITION. AND, ORA, EOR and BIT (43_logic_shift_bit.md, R200 to R203). -/

namespace Sys2Proof.Machine

/-! ### The shared operations -/

/-- `A <- A op Operand; SetNZ(A)` (R200 to R202). -/
def State.logic (s : State) (f : Byte → Byte → Byte) (src : Source) : State :=
  (s.noteSource src).transferA (f s.a (src.value s))

/-- BIT in a memory mode (R203): Z from `A & M`, N and V from the operand. -/
def State.bit (m : MemOperand) (s : State) : State :=
  (s.noteSource (.mem m)).withP (s.p.bitTest s.a ((Source.mem m).value s))

/-- BIT Immediate (R203, D27): Z only. -/
def State.bitImmediate (v : Byte) (s : State) : State := s.withP (s.p.testBits s.a v)

/-! ### The instructions -/

/-- AND XIndexed, 0x21: R200. -/
def execAndXInd (z : Byte) (s : State) : Out := complete (.andXInd z) 0 s (s.logic (· &&& ·) (.mem (.xInd z)))

/-- AND ZeroPage, 0x25: R200. -/
def execAndZp (z : Byte) (s : State) : Out := complete (.andZp z) 0 s (s.logic (· &&& ·) (.mem (.zp z)))

/-- AND Immediate, 0x29: R200. -/
def execAndImm (v : Byte) (s : State) : Out := complete (.andImm v) 0 s (s.logic (· &&& ·) (.imm v))

/-- AND Absolute, 0x2D: R200. -/
def execAndAbs (w : Word) (s : State) : Out := complete (.andAbs w) 0 s (s.logic (· &&& ·) (.mem (.abs w)))

/-- AND IndexedY, 0x31: R200. -/
def execAndIndY (z : Byte) (s : State) : Out := complete (.andIndY z) 0 s (s.logic (· &&& ·) (.mem (.indY z)))

/-- AND ZeroPageIndirect, 0x32 (CMOS65C02): R200. -/
def execAndZpInd (z : Byte) (s : State) : Out := complete (.andZpInd z) 0 s (s.logic (· &&& ·) (.mem (.zpInd z)))

/-- AND ZeroPageX, 0x35: R200. -/
def execAndZpX (z : Byte) (s : State) : Out := complete (.andZpX z) 0 s (s.logic (· &&& ·) (.mem (.zpX z)))

/-- AND AbsoluteY, 0x39: R200. -/
def execAndAbsY (w : Word) (s : State) : Out := complete (.andAbsY w) 0 s (s.logic (· &&& ·) (.mem (.absY w)))

/-- AND AbsoluteX, 0x3D: R200. -/
def execAndAbsX (w : Word) (s : State) : Out := complete (.andAbsX w) 0 s (s.logic (· &&& ·) (.mem (.absX w)))

/-- ORA XIndexed, 0x01: R201. -/
def execOraXInd (z : Byte) (s : State) : Out := complete (.oraXInd z) 0 s (s.logic (· ||| ·) (.mem (.xInd z)))

/-- ORA ZeroPage, 0x05: R201. -/
def execOraZp (z : Byte) (s : State) : Out := complete (.oraZp z) 0 s (s.logic (· ||| ·) (.mem (.zp z)))

/-- ORA Immediate, 0x09: R201. -/
def execOraImm (v : Byte) (s : State) : Out := complete (.oraImm v) 0 s (s.logic (· ||| ·) (.imm v))

/-- ORA Absolute, 0x0D: R201. -/
def execOraAbs (w : Word) (s : State) : Out := complete (.oraAbs w) 0 s (s.logic (· ||| ·) (.mem (.abs w)))

/-- ORA IndexedY, 0x11: R201. -/
def execOraIndY (z : Byte) (s : State) : Out := complete (.oraIndY z) 0 s (s.logic (· ||| ·) (.mem (.indY z)))

/-- ORA ZeroPageIndirect, 0x12 (CMOS65C02): R201. -/
def execOraZpInd (z : Byte) (s : State) : Out := complete (.oraZpInd z) 0 s (s.logic (· ||| ·) (.mem (.zpInd z)))

/-- ORA ZeroPageX, 0x15: R201. -/
def execOraZpX (z : Byte) (s : State) : Out := complete (.oraZpX z) 0 s (s.logic (· ||| ·) (.mem (.zpX z)))

/-- ORA AbsoluteY, 0x19: R201. -/
def execOraAbsY (w : Word) (s : State) : Out := complete (.oraAbsY w) 0 s (s.logic (· ||| ·) (.mem (.absY w)))

/-- ORA AbsoluteX, 0x1D: R201. -/
def execOraAbsX (w : Word) (s : State) : Out := complete (.oraAbsX w) 0 s (s.logic (· ||| ·) (.mem (.absX w)))

/-- EOR XIndexed, 0x41: R202. -/
def execEorXInd (z : Byte) (s : State) : Out := complete (.eorXInd z) 0 s (s.logic (· ^^^ ·) (.mem (.xInd z)))

/-- EOR ZeroPage, 0x45: R202. -/
def execEorZp (z : Byte) (s : State) : Out := complete (.eorZp z) 0 s (s.logic (· ^^^ ·) (.mem (.zp z)))

/-- EOR Immediate, 0x49: R202. -/
def execEorImm (v : Byte) (s : State) : Out := complete (.eorImm v) 0 s (s.logic (· ^^^ ·) (.imm v))

/-- EOR Absolute, 0x4D: R202. -/
def execEorAbs (w : Word) (s : State) : Out := complete (.eorAbs w) 0 s (s.logic (· ^^^ ·) (.mem (.abs w)))

/-- EOR IndexedY, 0x51: R202. -/
def execEorIndY (z : Byte) (s : State) : Out := complete (.eorIndY z) 0 s (s.logic (· ^^^ ·) (.mem (.indY z)))

/-- EOR ZeroPageIndirect, 0x52 (CMOS65C02): R202. -/
def execEorZpInd (z : Byte) (s : State) : Out := complete (.eorZpInd z) 0 s (s.logic (· ^^^ ·) (.mem (.zpInd z)))

/-- EOR ZeroPageX, 0x55: R202. -/
def execEorZpX (z : Byte) (s : State) : Out := complete (.eorZpX z) 0 s (s.logic (· ^^^ ·) (.mem (.zpX z)))

/-- EOR AbsoluteY, 0x59: R202. -/
def execEorAbsY (w : Word) (s : State) : Out := complete (.eorAbsY w) 0 s (s.logic (· ^^^ ·) (.mem (.absY w)))

/-- EOR AbsoluteX, 0x5D: R202. -/
def execEorAbsX (w : Word) (s : State) : Out := complete (.eorAbsX w) 0 s (s.logic (· ^^^ ·) (.mem (.absX w)))

/-- BIT ZeroPage, 0x24: R203. -/
def execBitZp (z : Byte) (s : State) : Out := complete (.bitZp z) 0 s (s.bit (.zp z))

/-- BIT Absolute, 0x2C: R203. -/
def execBitAbs (w : Word) (s : State) : Out := complete (.bitAbs w) 0 s (s.bit (.abs w))

/-- BIT ZeroPageX, 0x34 (CMOS65C02): R203. -/
def execBitZpX (z : Byte) (s : State) : Out := complete (.bitZpX z) 0 s (s.bit (.zpX z))

/-- BIT AbsoluteX, 0x3C (CMOS65C02): R203. -/
def execBitAbsX (w : Word) (s : State) : Out := complete (.bitAbsX w) 0 s (s.bit (.absX w))

/-- BIT Immediate, 0x89 (CMOS65C02): R203. -/
def execBitImm (v : Byte) (s : State) : Out := complete (.bitImm v) 0 s (s.bitImmediate v)

end Sys2Proof.Machine
end

