-- ==== Sys2Proof/Machine/Shift.lean ====
section
/-! DEFINITION. Shifts and rotates (43_logic_shift_bit.md, R204 to R208). -/

namespace Sys2Proof.Machine

/-! ### The shared operations -/

/-- ASL's operation (R204): bit 7 goes to C. -/
def State.asl (pl : Place) (s : State) : State :=
  s.modify pl aslByte fun p m => p.afterShift m.msb (aslByte m)

/-- LSR's operation (R205): bit 0 goes to C. -/
def State.lsr (pl : Place) (s : State) : State :=
  s.modify pl lsrByte fun p m => p.afterShift (m.getLsbD 0) (lsrByte m)

/-- ROL's operation (R206): the old C comes in at bit 0, bit 7 goes to C. -/
def State.rol (pl : Place) (s : State) : State :=
  s.modify pl (rolByte s.p.c) fun p m => p.afterShift m.msb (rolByte s.p.c m)

/-- ROR's operation (R207): the old C comes in at bit 7, bit 0 goes to C. -/
def State.ror (pl : Place) (s : State) : State :=
  s.modify pl (rorByte s.p.c) fun p m => p.afterShift (m.getLsbD 0) (rorByte s.p.c m)

/-! ### The instructions -/

/-- ASL ZeroPage, 0x06: R204. -/
def execAslZp (z : Byte) (s : State) : Out := complete (.aslZp z) 0 s (s.asl (.mem (.zp z)))

/-- ASL Accumulator, 0x0A: R204. -/
def execAslAcc (s : State) : Out := complete .aslAcc 0 s (s.asl .acc)

/-- ASL Absolute, 0x0E: R204. -/
def execAslAbs (w : Word) (s : State) : Out := complete (.aslAbs w) 0 s (s.asl (.mem (.abs w)))

/-- ASL ZeroPageX, 0x16: R204. -/
def execAslZpX (z : Byte) (s : State) : Out := complete (.aslZpX z) 0 s (s.asl (.mem (.zpX z)))

/-- ASL AbsoluteX, 0x1E: R204. -/
def execAslAbsX (w : Word) (s : State) : Out := complete (.aslAbsX w) 0 s (s.asl (.mem (.absX w)))

/-- LSR ZeroPage, 0x46: R205. -/
def execLsrZp (z : Byte) (s : State) : Out := complete (.lsrZp z) 0 s (s.lsr (.mem (.zp z)))

/-- LSR Accumulator, 0x4A: R205. -/
def execLsrAcc (s : State) : Out := complete .lsrAcc 0 s (s.lsr .acc)

/-- LSR Absolute, 0x4E: R205. -/
def execLsrAbs (w : Word) (s : State) : Out := complete (.lsrAbs w) 0 s (s.lsr (.mem (.abs w)))

/-- LSR ZeroPageX, 0x56: R205. -/
def execLsrZpX (z : Byte) (s : State) : Out := complete (.lsrZpX z) 0 s (s.lsr (.mem (.zpX z)))

/-- LSR AbsoluteX, 0x5E: R205. -/
def execLsrAbsX (w : Word) (s : State) : Out := complete (.lsrAbsX w) 0 s (s.lsr (.mem (.absX w)))

/-- ROL ZeroPage, 0x26: R206. -/
def execRolZp (z : Byte) (s : State) : Out := complete (.rolZp z) 0 s (s.rol (.mem (.zp z)))

/-- ROL Accumulator, 0x2A: R206. -/
def execRolAcc (s : State) : Out := complete .rolAcc 0 s (s.rol .acc)

/-- ROL Absolute, 0x2E: R206. -/
def execRolAbs (w : Word) (s : State) : Out := complete (.rolAbs w) 0 s (s.rol (.mem (.abs w)))

/-- ROL ZeroPageX, 0x36: R206. -/
def execRolZpX (z : Byte) (s : State) : Out := complete (.rolZpX z) 0 s (s.rol (.mem (.zpX z)))

/-- ROL AbsoluteX, 0x3E: R206. -/
def execRolAbsX (w : Word) (s : State) : Out := complete (.rolAbsX w) 0 s (s.rol (.mem (.absX w)))

/-- ROR ZeroPage, 0x66: R207. -/
def execRorZp (z : Byte) (s : State) : Out := complete (.rorZp z) 0 s (s.ror (.mem (.zp z)))

/-- ROR Accumulator, 0x6A: R207. -/
def execRorAcc (s : State) : Out := complete .rorAcc 0 s (s.ror .acc)

/-- ROR Absolute, 0x6E: R207. -/
def execRorAbs (w : Word) (s : State) : Out := complete (.rorAbs w) 0 s (s.ror (.mem (.abs w)))

/-- ROR ZeroPageX, 0x76: R207. -/
def execRorZpX (z : Byte) (s : State) : Out := complete (.rorZpX z) 0 s (s.ror (.mem (.zpX z)))

/-- ROR AbsoluteX, 0x7E: R207. -/
def execRorAbsX (w : Word) (s : State) : Out := complete (.rorAbsX w) 0 s (s.ror (.mem (.absX w)))

end Sys2Proof.Machine
end

