-- ==== Sys2Proof/Machine/Stack.lean ====
section
/-! DEFINITION. Push and pull instructions (45_stack_flags_system.md, R270 to R277). -/

namespace Sys2Proof.Machine

/-- PHA, 0x48: R270. -/
def execPha (s : State) : Out := complete .pha 0 s (s.push s.a)

/-- PLA, 0x68: R271. -/
def execPla (s : State) : Out := complete .pla 0 s (s.popped.transferA s.popValue)

/-- PHP, 0x08: R272. -/
def execPhp (s : State) : Out := complete .php 0 s (s.push (s.p.pushedByte true))

/-- PLP, 0x28: R273. -/
def execPlp (s : State) : Out := complete .plp 0 s (s.popped.withP (Status.ofByte s.popValue))

/-- PHX, 0xDA (CMOS65C02): R274. -/
def execPhx (s : State) : Out := complete .phx 0 s (s.push s.x)

/-- PLX, 0xFA (CMOS65C02): R275. -/
def execPlx (s : State) : Out := complete .plx 0 s (s.popped.transferX s.popValue)

/-- PHY, 0x5A (CMOS65C02): R276. -/
def execPhy (s : State) : Out := complete .phy 0 s (s.push s.y)

/-- PLY, 0x7A (CMOS65C02): R277. -/
def execPly (s : State) : Out := complete .ply 0 s (s.popped.transferY s.popValue)

end Sys2Proof.Machine
end

