-- ==== Sys2Proof/Machine/SystemOps.lean ====
section
/-! DEFINITION. NOP, BRK, RTI and the fallback of illegal opcodes (45_stack_flags_system.md, R290 to R295). -/

namespace Sys2Proof.Machine

/-! ### The shared operation of the fallback -/

/-- The fallback handler (R294): under AsBRK exactly the operation of BRK, under Refuse the refusal. -/
def State.fallback (i : Instr) (op : Byte) (s : State) : Out :=
  match s.cfg.illegalPolicy with
  | .asBRK => complete i 0 s s.softwareInterrupt
  | .refuse => .refused (.illegalOpcode op)

/-! ### The instructions -/

/-- NOP, 0xEA: R290. -/
def execNop (s : State) : Out := complete .nop 0 s s

/-- BRK, 0x00: R292. -/
def execBrk (s : State) : Out := complete .brk 0 s s.softwareInterrupt

/-- RTI, 0x40: R293. -/
def execRti (s : State) : Out := complete .rti 0 s s.returnFromInterrupt

/-- ILL, the fallback entry of NMOS6502: R294. -/
def execIllNmos (op : Byte) (s : State) : Out := State.fallback (.illNmos op) op s

/-- ILL, the fallback entry of CMOS65C02: R294. -/
def execIllCmos (op : Byte) (s : State) : Out := State.fallback (.illCmos op) op s

end Sys2Proof.Machine
end

