-- ==== Sys2Proof/Machine/Step.lean ====
section
/-! DEFINITION. One step of the machine (R102), and the host's way to place an instruction where the next
step fetches it. -/

namespace Sys2Proof.Machine

/-- The instruction whose opcode byte is at PC, decoded in the variant (R70, R102 part 3). -/
def decodeAt (s : State) : Instr :=
  decodeBytes s.cfg.variant (s.peek s.pc) (s.peek (s.pc + 1)) (s.peek (s.pc + 2))

/-- The last part of a step whose opcode `op` was at `p`: `instruction-just-executed` (R102, R332). -/
def finishStep (p : Word) (op : Byte) : Out → Out
  | .next t => .next (t.emit (.justExecuted p op))
  | .fault f => .fault f
  | .refused r => .refused r

/-- `step()` of R102. The result it returns is `proceed` of the next state (R103). In Idle and Halted the
core has no step (R105 part (b), D29): a refusal. -/
def step (s : State) : Host.Outcome State Fault Refusal :=
  match s.runState with
  | .running =>
    match s.sampleInterrupts with
    | some t => .next t
    | none =>
      finishStep s.pc (s.peek s.pc)
        (exec (decodeAt s) (s.fetchInstr (decodeAt s).operandBytes))
  | .idle => .refused (.notRunning .idle)
  | .halted => .refused (.notRunning .halted)

/-- `s` with the instruction whose bits are `w` (bit 0 the least significant bit of its first byte, bits
from `nbits` on zero) stored at PC, Running and with no interrupt request, so that the next step fetches
and runs exactly it. It stands for an image load (R44), so it does not obey the lock mask (log 9). -/
def State.withFetchWord (s : State) (nbits w : Nat) : State :=
  let u := tableBits nbits w
  { s with
    mem := ((s.mem.write s.pc.toNat (tableByte u 0)).write (s.pc + 1).toNat (tableByte u 1)).write
      (s.pc + 2).toNat (tableByte u 2)
    runState := .running
    irqLine := false
    nmiPending := false }

end Sys2Proof.Machine
end

