-- ==== Sys2Proof/Machine/HostOps.lean ====
section
/-! DEFINITION. The operations of the host, performed between steps (R55, D24): power-on (R29), `reset()`
(R351), `start(address)` (R100), `loadImage` (R44), `clear()` (R45), host writes (R55), the interrupt
inputs (R24), the stop control (R104), and `run()` under a schedule of host actions (R105). -/

namespace Sys2Proof.Machine

/-- The state at power-on (R29, D9) under a configuration. `irq_line` is an input: 0 (log 4). -/
def State.powerOn (cfg : Config) : State where
  cfg        := cfg
  pc         := 0x0000
  a          := cfg.resetA
  x          := 0x80
  y          := cfg.resetY
  sp         := cfg.resetS
  p          := Status.ofByte cfg.resetP
  cycles     := 0
  runState   := .idle
  proceed    := true
  irqLine    := false
  nmiPending := false
  mem        := []
  lock       := []
  trace      := []

/-- `reset()` of R351: registers first, then the vector read. Nothing is pushed; `irq_line`, memory and
the lock mask are unchanged (R28, R353). -/
def State.hostReset (s : State) : State :=
  let t := { s with
    a          := s.cfg.resetA
    x          := 0x80
    y          := s.cfg.resetY
    sp         := s.cfg.resetS
    p          := Status.ofByte s.cfg.resetP
    cycles     := 0
    nmiPending := false
    proceed    := true }
  ((t.noteReadWord resetVector).withPc (t.peekWord resetVector)).withRunState .running

/-- `start(address)` of R100: PC, `cycles`, `runState` and `proceed`, nothing else (R30). -/
def State.hostStart (s : State) (address : Word) : State :=
  { s with pc := address, cycles := 0, runState := .running, proceed := true }

/-- Why `loadImage` fails (R44, U11). -/
inductive LoadError where
  | outOfRange
  deriving DecidableEq, Repr

/-- `mem[offset + i] <- bytes[i]`, whatever is locked (R44, D23). -/
def Memory.load : Memory → Nat → List Byte → Memory
  | m, _, [] => m
  | m, a, v :: bytes => Memory.load (m.write a v) (a + 1) bytes

/-- `lock[a + i] <- true` for `i` below `n`. -/
def LockMask.addRange : LockMask → Nat → Nat → LockMask
  | l, _, 0 => l
  | l, a, n + 1 => LockMask.addRange (l.add a) (a + 1) n

/-- `loadImage(bytes, offset, lockFlag)` of R44: the length and the new state, or OutOfRange with no
change. It emits no event and does not obey the lock mask (D23). -/
def State.loadImage (s : State) (bytes : List Byte) (offset : Word) (lockFlag : Bool) :
    Except LoadError (Nat × State) :=
  if 65536 < offset.toNat + bytes.length then .error .outOfRange
  else
    let t := s.withMem (s.mem.load offset.toNat bytes)
    .ok (bytes.length,
      if lockFlag then t.withLock (t.lock.addRange offset.toNat bytes.length) else t)

/-- `clear()` of R45: zero all bytes, unlock all addresses. -/
def State.hostClear (s : State) : State := (s.withMem []).withLock []

/-- What the host does between two steps (R55, D24). -/
inductive HostAction where
  /-- A write through the core's own write path (R55, R362). -/
  | write (a : Word) (v : Byte)
  /-- `irq_line` driven to a level (R24, R312). -/
  | setIrqLine (level : Bool)
  /-- One NMI request (R24, R311). -/
  | requestNmi
  /-- The stop control (R104). -/
  | clearProceed
  | reset
  | start (address : Word)
  | clear
  /-- An image load; one that does not fit changes nothing (R44). -/
  | loadImage (bytes : List Byte) (offset : Word) (lockFlag : Bool)
  deriving DecidableEq, Repr

/-- The effect of a host action. -/
def State.act (s : State) : HostAction → State
  | .write a v => s.write a v
  | .setIrqLine b => s.withIrqLine b
  | .requestNmi => s.withNmiPending true
  | .clearProceed => s.withProceed false
  | .reset => s.hostReset
  | .start w => s.hostStart w
  | .clear => s.hostClear
  | .loadImage bytes offset lockFlag =>
    match s.loadImage bytes offset lockFlag with
    | .ok (_, t) => t
    | .error _ => s

/-- The effects of several host actions, in order. -/
def State.acts (s : State) (l : List HostAction) : State := l.foldl State.act s

/-- How a run under a schedule ends. -/
inductive RunResult where
  /-- `run()` has returned: Halted, `run-finished` emitted (R105). -/
  | finished (s : State)
  /-- The schedule is used up and the run goes on (R104: no watchdog). -/
  | running (s : State)
  /-- A step was refused. -/
  | refused (r : Refusal)
  deriving DecidableEq, Repr

/-- The end of `run()`: `runState <- Halted`, then `run-finished` (R105). -/
def State.halt (s : State) : State := (s.withRunState .halted).emit .runFinished

/-- The loop of `run()` (R105). Entry `k` of the schedule is what the host does in reaction to step `k`.
`proceed` is read once, after all actions of the entry: a clear in it ends the run, as the false answer of
step `k` does (R103), unless a `start` or `reset` later in the same entry sets it again, and then the run
goes on. DESIGN CHOICE (log 6): the spec does not say of such an entry whether the clear fell during step
`k`, which would end the run, or after it. -/
def runLoop : List (List HostAction) → State → RunResult
  | sched, s =>
    if s.proceed then
      match sched with
      | [] => .running s
      | actions :: rest =>
        match step s with
        | .next t => runLoop rest (t.acts actions)
        | .refused r => .refused r
        | .fault f => nomatch f
    else .finished s.halt

/-- `run()` of R105, defined when `runState = Running` (D29). -/
def State.hostRun (s : State) (sched : List (List HostAction)) : RunResult :=
  match s.runState with
  | .running => runLoop sched (s.emit .runStarting)
  | .idle => .refused (.notRunning .idle)
  | .halted => .refused (.notRunning .halted)

end Sys2Proof.Machine
end

