-- ==== Sys2Proof/Safety.lean ====
section
/-! DEFINITION. What counts as a well-formed state and as a state that can step, in the terms the
statements use. -/

namespace Sys2Proof.Machine

/-- Memory and the lock mask are in canonical form. -/
def State.wf (s : State) : Bool := s.mem.wf && s.lock.wf

/-- A step of this state runs an instruction: Running, and no interrupt is taken at sampling (R102). -/
def State.fetches (s : State) : Prop :=
  s.runState = .running ∧ s.nmiPending = false ∧ (s.irqLine = false ∨ s.p.i = true)

/-- The configuration never refuses an illegal opcode (ILLEGAL_POLICY = AsBRK, the default). -/
def State.trapsIllegal (s : State) : Prop := s.cfg.illegalPolicy = .asBRK

/-- Everything but `cycles` and the event trace agrees: what a program can depend on (R31, R370). -/
def State.agreesButTiming (s t : State) : Prop :=
  { s with cycles := t.cycles, trace := t.trace } = t

end Sys2Proof.Machine
end

