-- ==== Sys2Proof/Certificates/Slice0/Obligations.lean ====
section
/-! DEFINITION. The statements about the machine, for the provers. Every obligation's docstring names the
rules it formalises. PC in a statement about `exec` is the PC a handler sees: the address after the
instruction's operand bytes (R108); StepRunsDecodedInstruction ties it to `step`. Beside the rules a
statement names, base cycles are those of R76 and penalties those of R135, for either value of
PENALTY_CYCLES (the spec's decision D14), and the counter wraps modulo 2^64 (its decision D22).
The events are read off `State.trace` and the configuration off `State.cfg`, which stand in State by the
model's own choice (log 5, log 2). -/

namespace Sys2Proof.Claims

open Sys2Proof.Machine

/-- The six program-visible registers (R10). -/
structure Regs where
  a  : Byte
  x  : Byte
  y  : Byte
  sp : Byte
  pc : Word
  p  : Status

/-- The registers of a state. -/
def regsOf (s : State) : Regs := ⟨s.a, s.x, s.y, s.sp, s.pc, s.p⟩

/-- Configuration, run control, interrupt inputs and lock mask are as before. -/
def SameControl (s t : State) : Prop :=
  t.cfg = s.cfg ∧ t.runState = s.runState ∧ t.proceed = s.proceed ∧ t.irqLine = s.irqLine ∧
    t.nmiPending = s.nmiPending ∧ t.lock = s.lock

/-- Every byte of memory reads as before. -/
def SameMemory (s t : State) : Prop := ∀ b, t.peek b = s.peek b

/-- The byte at `a` is `v` if `a` is unlocked; every other byte, and a locked one, reads as before. -/
def StoresByte (a : Word) (v : Byte) (s t : State) : Prop :=
  ∀ b, t.peek b = if b = a ∧ s.isLocked a = false then v else s.peek b

/-- `0x0100 + S` (R14). -/
def stackAt (sp : Byte) : Word := BitVec.ofNat 16 (0x0100 + sp.toNat)

/-- Two bytes are pushed, `hi` first (R131): unlocked stack bytes take them, all else reads as before. -/
def PushesTwo (hi lo : Byte) (s t : State) : Prop :=
  ∀ b, t.peek b =
    if s.isLocked b then s.peek b
    else if b = stackAt s.sp then hi
    else if b = stackAt (s.sp - 1) then lo
    else s.peek b

/-- Three bytes are pushed, `hi` first and `st` last (R131, R314). -/
def PushesThree (hi lo st : Byte) (s t : State) : Prop :=
  ∀ b, t.peek b =
    if s.isLocked b then s.peek b
    else if b = stackAt s.sp then hi
    else if b = stackAt (s.sp - 1) then lo
    else if b = stackAt (s.sp - 2) then st
    else s.peek b

/-- The word at `a`, low byte at `a` (R46). -/
def wordAt (s : State) (a : Word) : Word :=
  BitVec.ofNat 16 (256 * (s.peek (a + 1)).toNat + (s.peek a).toNat)

/-- The read event of address `a` in state `s`. -/
def rd (s : State) (a : Word) : Event := .byteRead a (s.peek a)

/-- The event of a write of `v` at `a`: accepted or refused (R43). -/
def wr (s : State) (a : Word) (v : Byte) : Event :=
  if s.isLocked a then .invalidWrite a v else .byteWritten a v

/-- The encoding of `i` begins with the opcode byte `op`, which CMOS65C02 has, and NMOS6502 has iff `nmos`:
otherwise `op` is illegal there (R76, R77). -/
def HasOpcode (i : Instr) (op : Byte) (nmos : Bool) : Prop :=
  (encode i).head? = some op ∧ i.wellFormed .cmos65c02 = true ∧ i.wellFormed .nmos6502 = nmos ∧
    nmosIllegal.contains op = !nmos

/-- A penalty cycle, when penalties are modelled (R135). -/
def penalty (s : State) (b : Bool) : Nat := if s.cfg.penaltyCycles && b then 1 else 0

/-- The two addresses differ in bits 15:8 (R125). -/
def otherPage (v w : Word) : Bool := decide (v.toNat / 256 ≠ w.toNat / 256)

/-- Indexing leaves the page of the base (R116, R117, R119). -/
def crosses : Source → State → Bool
  | .imm _, _ => false
  | .mem m, s => otherPage (m.ea s) (m.base s)

/-- P after `SetNZ(v)` (R130). -/
def nz (p : Status) (v : Byte) : Status :=
  { p with n := v.getLsbD 7, z := decide (v.toNat = 0) }

/-- `exec i s` answers a next state with the registers `r`, `cyc` more cycles, the memory `m` says, the
events `ev` says (those it emits, newest first), and everything else unchanged. -/
def Completes (i : Instr) (s : State) (r : Regs) (cyc : Nat) (ev : List Event → Prop)
    (m : State → Prop) : Prop :=
  ∃ t, exec i s = .next t ∧ regsOf t = r ∧ t.cycles = s.cycles + BitVec.ofNat 64 cyc ∧
    SameControl s t ∧ m t ∧ ∃ l, t.trace = l ++ s.trace ∧ ev l

/-- `exec i s` answers a next state and emits exactly the events `l`, newest first. -/
def Accesses (i : Instr) (s : State) (l : List Event) : Prop :=
  ∃ t, exec i s = .next t ∧ t.trace = l ++ s.trace

/-- The addresses of the two pointer bytes a mode reads: none but in the three indirect modes. -/
def pointerAddresses : MemOperand → State → List Word
  | .xInd z, s =>
    [BitVec.ofNat 16 ((z.toNat + s.x.toNat) % 256), BitVec.ofNat 16 ((z.toNat + s.x.toNat + 1) % 256)]
  | .indY z, _ | .zpInd z, _ => [BitVec.ofNat 16 z.toNat, BitVec.ofNat 16 ((z.toNat + 1) % 256)]
  | _, _ => []

/-- Reads of pointer bytes, in whatever order; with no pointer, no event. -/
def PointerReads (m : MemOperand) (s : State) (l : List Event) : Prop :=
  l.length = (pointerAddresses m s).length ∧ ∀ e ∈ l, ∃ q ∈ pointerAddresses m s, e = rd s q

/-- The accesses of a value operand: pointer bytes, then one read of the data byte (R133). -/
def sourceAccesses : Source → State → List Event → Prop
  | .imm _, _, l => l = []
  | .mem m, s, l => ∃ ptr, l = rd s (m.ea s) :: ptr ∧ PointerReads m s ptr

/-- A form with opcode `op` that reads `src`: the byte read decides the registers by `f`; no byte of
memory changes; base cycles `base`, and one more when `plusP` and indexing crosses a page. -/
def Reads (op : Byte) (nmos : Bool) (i : Instr) (src : Source) (base : Nat) (plusP : Bool)
    (f : State → Byte → Regs) (extra : Nat) (s : State) : Prop :=
  HasOpcode i op nmos ∧
    Completes i s (f s (src.value s)) (base + penalty s (plusP && crosses src s) + extra)
      (sourceAccesses src s) (SameMemory s)

/-- A load into the register that `put` writes, with N and Z from the byte read. -/
def loads (put : Regs → Byte → Regs) (s : State) (m : Byte) : Regs :=
  { put (regsOf s) m with p := nz s.p m }

/-- A form with opcode `op` that stores `v` at the effective address of `m`: one write there, no data
read (R144 to R147). -/
def Stores (op : Byte) (nmos : Bool) (i : Instr) (m : MemOperand) (v : Byte) (base : Nat) (s : State) :
    Prop :=
  HasOpcode i op nmos ∧
    Completes i s (regsOf s) base
      (fun l => ∃ ptr, l = wr s (m.ea s) v :: ptr ∧ PointerReads m s ptr) (StoresByte (m.ea s) v s)

/-- A form with opcode `op` that changes registers only, with the accesses `l`, newest first. -/
def Sets (op : Byte) (nmos : Bool) (i : Instr) (r : Regs) (base : Nat) (l : List Event) (s : State) :
    Prop :=
  HasOpcode i op nmos ∧ Completes i s r base (· = l) (SameMemory s)

/-- A push of `v` with opcode `op`: one write at `0x0100 + S`, S down by one (R131). -/
def Pushes (op : Byte) (nmos : Bool) (i : Instr) (v : Byte) (s : State) : Prop :=
  HasOpcode i op nmos ∧
    Completes i s { regsOf s with sp := s.sp - 1 } 3 (· = [wr s (stackAt s.sp) v])
      (StoresByte (stackAt s.sp) v s)

/-- A read-modify-write (R208) with opcode `op` on place `pl`: the byte `m` becomes `f m` and P becomes
`g m`; one read, then one write; the flags are set whether or not the write is accepted. -/
def Modifies (op : Byte) (nmos : Bool) (i : Instr) (pl : Place) (f : Byte → Byte) (g : Byte → Status)
    (cyc : Nat) (s : State) : Prop :=
  HasOpcode i op nmos ∧
    match pl with
    | .acc => Completes i s { regsOf s with a := f s.a, p := g s.a } cyc (· = []) (SameMemory s)
    | .mem m =>
      Completes i s { regsOf s with p := g (s.peek (m.ea s)) } cyc
        (· = [wr s (m.ea s) (f (s.peek (m.ea s))), rd s (m.ea s)])
        (StoresByte (m.ea s) (f (s.peek (m.ea s))) s)

/-- Cycles of ASL, LSR, ROL, ROR AbsoluteX: 7 on NMOS6502, 6+p on CMOS65C02 (R76). -/
def absXShiftCycles (w : Word) (s : State) : Nat :=
  match s.cfg.variant with
  | .nmos6502 => 7
  | .cmos65c02 => 6 + penalty s (crosses (.mem (.absX w)) s)

/-- The branch target: PC plus the signed displacement, mod 65536 (R121, R122). -/
def target (s : State) (d : Byte) : Word := BitVec.ofInt 16 ((s.pc.toNat : Int) + d.toInt)

/-- A branch with the accesses `l`: to the target if `cond`, else nothing; `base` cycles, one more if
taken, one more if taken across a page (R240, R135). -/
def Branches (op : Byte) (nmos : Bool) (i : Instr) (cond : Bool) (d : Byte) (base : Nat)
    (l : List Event) (s : State) : Prop :=
  HasOpcode i op nmos ∧
    Completes i s { regsOf s with pc := if cond then target s d else s.pc }
      (base + penalty s cond + penalty s (cond && otherPage (target s d) s.pc)) (· = l) (SameMemory s)

/-- P after a binary addition of `m` (R171). -/
def addRegs (s : State) (m : Byte) : Regs :=
  let sum := s.a.toNat + m.toNat + s.p.c.toNat
  let r : Byte := BitVec.ofNat 8 sum
  { regsOf s with
    a := r
    p := { nz s.p r with
      c := decide (255 < sum)
      v := (~~~(s.a ^^^ m) &&& (s.a ^^^ r)).getLsbD 7 } }

/-- The registers after a binary subtraction of `m` (R173). -/
def subRegs (s : State) (m : Byte) : Regs :=
  let d : Int := (s.a.toNat : Int) - m.toNat - (1 - s.p.c.toNat)
  let r : Byte := BitVec.ofInt 8 d
  { regsOf s with
    a := r
    p := { nz s.p r with
      c := decide (0 ≤ d)
      v := ((s.a ^^^ m) &&& (s.a ^^^ r)).getLsbD 7 } }

/-- The registers after a decimal operation: A, C and the flags N, V, Z. -/
def decRegs (s : State) (a : Byte) (c : Bool) (f : NVZ) : Regs :=
  { regsOf s with a := a, p := { s.p with c := c, n := f.n, v := f.v, z := f.z } }

/-- `r` of R175 from the nibbles, before reduction. -/
def bcdSum (a m : Byte) (c : Bool) : Nat :=
  let al := a.toNat % 16 + m.toNat % 16 + c.toNat
  let al := if al ≥ 10 then (al + 6) % 16 + 16 else al
  let r := a.toNat / 16 * 16 + m.toNat / 16 * 16 + al
  if r ≥ 0xA0 then r + 0x60 else r

/-- `r` of R177, before reduction. -/
def bcdDiff (a m : Byte) (c : Bool) : Int :=
  let al : Int := (a.toNat % 16 : Nat) - (m.toNat % 16 : Nat) + c.toNat - 1
  let al : Int := if al < 0 then (al - 6) % 16 - 16 else al
  let r : Int := (a.toNat / 16 * 16 : Nat) - (m.toNat / 16 * 16 : Nat) + al
  if r < 0 then r - 0x60 else r

/-- The default of `decimalFlags`: N and Z from the decimal result, V given (R176, R178). -/
def ruleFlags (result : Byte) (v : Bool) : NVZ :=
  { n := result.getLsbD 7, v := v, z := decide (result.toNat = 0) }

/-- One more cycle for a decimal ADC or SBC on CMOS65C02 (R135 (d)). -/
def decimalExtra (s : State) : Nat :=
  match s.cfg.variant with
  | .nmos6502 => 0
  | .cmos65c02 => penalty s true

/-- Both nibbles are decimal digits. -/
def validBcd (b : Byte) : Prop := b.toNat % 16 ≤ 9 ∧ b.toNat / 16 ≤ 9

/-- `dec(b)` of R175. -/
def dec (b : Byte) : Nat := 10 * (b.toNat / 16) + b.toNat % 16

/-- `bcd(k)` of R175. -/
def bcd (k : Nat) : Byte := BitVec.ofNat 8 (16 * (k / 10) + k % 10)

/-- The registers after a compare of the register value `r` (R183). -/
def cmpRegs (r : State → Byte) (s : State) (m : Byte) : Regs :=
  { regsOf s with
    p := { nz s.p (r s - m) with c := decide (m.toNat ≤ (r s).toNat), z := decide (r s = m) } }

/-- The registers after an interrupt entry through `vec` from a state whose return address is `ret`; `t`
is the state after, whose memory the vector is read from; three writes, then two reads (R314). -/
def Enters (ret vec : Word) (st : Byte) (s t : State) : Prop :=
  regsOf t = { regsOf s with sp := s.sp - 3, p := { s.p with i := true }, pc := wordAt t vec } ∧
    PushesThree (BitVec.ofNat 8 (ret.toNat / 256)) (BitVec.ofNat 8 ret.toNat) st s t ∧
    t.trace = rd t (vec + 1) :: rd t vec :: wr s (stackAt (s.sp - 2)) st ::
      wr s (stackAt (s.sp - 1)) (BitVec.ofNat 8 ret.toNat) ::
      wr s (stackAt s.sp) (BitVec.ofNat 8 (ret.toNat / 256)) :: s.trace

/-- The instruction `i` takes the software interrupt (R292): return address PC + 1 (`p + 2`), Break and
Reserved set in the pushed status, vector 0xFFFE, 7 cycles. -/
def TakesSoftwareInterrupt (i : Instr) (s : State) : Prop :=
  ∃ t, exec i s = .next t ∧ Enters (s.pc + 1) 0xFFFE (s.p.toByte ||| 0x30) s t ∧
    t.cycles = s.cycles + 7 ∧ SameControl s t

/-- The status byte a hardware interrupt pushes: Reserved 1, bit 4 = INT_PUSHED_B (R314). -/
def pushedStatus (s : State) : Byte :=
  (s.p.toByte &&& 0xEF) ||| if s.cfg.intPushedB then 0x10 else 0x00

/-- Memory accesses a trace event stands for. -/
def isAccess : Event → Bool
  | .byteRead _ _ | .byteWritten _ _ | .invalidWrite _ _ => true
  | _ => false

/-- The reads of `n` operand bytes after the opcode at PC, newest first (R106, R107). -/
def operandReads (s : State) : Nat → List Event
  | 0 => []
  | 1 => [rd s (s.pc + 1)]
  | _ => [rd s (s.pc + 2), rd s (s.pc + 1)]

/-- The base cycles over all 256 opcode bytes of a variant, added up (95_test_vectors.md S6). -/
def sumOfBaseCycles (v : Variant) : Nat :=
  ((List.range 256).map fun b => ((decodeBytes v (BitVec.ofNat 8 b) 0 0).cost v).base).sum

/-- The fallback entry of a variant. -/
def fallbackEntry (v : Variant) (op : Byte) : Instr :=
  match v with
  | .nmos6502 => .illNmos op
  | .cmos65c02 => .illCmos op

/-- The illegal bytes of a variant. -/
def illegalBytes : Variant → List Byte
  | .nmos6502 => nmosIllegal
  | .cmos65c02 => cmosIllegal

/-- The state with another VARIANT. -/
def withVariant (s : State) (v : Variant) : State := { s with cfg := { s.cfg with variant := v } }

/-- A decimal ADC form (R175, R176): A, C and N, V, Z, where the three flags are those of the parameter
`decimalFlags`, whose default takes V from the binary sum. -/
def AddsDecimal (op : Byte) (nmos : Bool) (i : Instr) (src : Source) (base : Nat)
    (plusP : Bool) (s : State) : Prop :=
  let m := src.value s
  let r : Byte := BitVec.ofNat 8 (bcdSum s.a m s.p.c)
  let f := decimalNVZ s.cfg false s.a m s.p.c r
  Reads op nmos i src base plusP (fun s m => decRegs s (BitVec.ofNat 8 (bcdSum s.a m s.p.c))
      (decide (0x100 ≤ bcdSum s.a m s.p.c)) f) (decimalExtra s) s ∧
    (s.cfg.decimalFlags = .byRule → f = ruleFlags r (addRegs s m).p.v)

/-- A decimal SBC form (R177, R178), with the carry of the binary mode. -/
def SubtractsDecimal (op : Byte) (nmos : Bool) (i : Instr) (src : Source) (base : Nat)
    (plusP : Bool) (s : State) : Prop :=
  let m := src.value s
  let r : Byte := BitVec.ofInt 8 (bcdDiff s.a m s.p.c)
  let f := decimalNVZ s.cfg true s.a m s.p.c r
  Reads op nmos i src base plusP (fun s m => decRegs s (BitVec.ofInt 8 (bcdDiff s.a m s.p.c))
      (subRegs s m).p.c f) (decimalExtra s) s ∧
    (s.cfg.decimalFlags = .byRule → f = ruleFlags r (subRegs s m).p.v)

end Sys2Proof.Claims

open Sys2Proof Sys2Proof.Machine Sys2Proof.Claims

/-- R19: the conversion between P and a byte. -/
def Obligations.StatusByteRoundTrip : Prop :=
  (∀ v : Byte, (Status.ofByte v).toByte = v ||| 0x20 ∧ Status.ofByte (v ||| 0x20) = Status.ofByte v) ∧
    ∀ p : Status, Status.ofByte p.toByte = p

/-- The layout of R16, the spec's own decision D5; bit 5 constant 1, decision D6. -/
def Obligations.StatusBitPositions : Prop :=
  ∀ p : Status,
    p.toByte.getLsbD 7 = p.n ∧ p.toByte.getLsbD 6 = p.v ∧ p.toByte.getLsbD 5 = true ∧
    p.toByte.getLsbD 4 = p.b ∧ p.toByte.getLsbD 3 = p.d ∧ p.toByte.getLsbD 2 = p.i ∧
    p.toByte.getLsbD 1 = p.z ∧ p.toByte.getLsbD 0 = p.c

/-- R112 to R120. The wrap of pointers inside page zero is the decision D19. -/
def Obligations.EffectiveAddresses : Prop :=
  ∀ (s : State) (z : Byte) (w : Word),
    (MemOperand.zp z).ea s = BitVec.ofNat 16 z.toNat ∧
    (MemOperand.zpX z).ea s = BitVec.ofNat 16 ((z.toNat + s.x.toNat) % 256) ∧
    (MemOperand.zpY z).ea s = BitVec.ofNat 16 ((z.toNat + s.y.toNat) % 256) ∧
    (MemOperand.abs w).ea s = w ∧
    (MemOperand.absX w).ea s = BitVec.ofNat 16 (w.toNat + s.x.toNat) ∧
    (MemOperand.absY w).ea s = BitVec.ofNat 16 (w.toNat + s.y.toNat) ∧
    (MemOperand.xInd z).ea s = BitVec.ofNat 16
      (256 * (s.peek (BitVec.ofNat 16 ((z.toNat + s.x.toNat + 1) % 256))).toNat +
        (s.peek (BitVec.ofNat 16 ((z.toNat + s.x.toNat) % 256))).toNat) ∧
    (MemOperand.indY z).ea s = BitVec.ofNat 16
      (256 * (s.peek (BitVec.ofNat 16 ((z.toNat + 1) % 256))).toNat +
        (s.peek (BitVec.ofNat 16 z.toNat)).toNat + s.y.toNat) ∧
    (MemOperand.zpInd z).ea s = BitVec.ofNat 16
      (256 * (s.peek (BitVec.ofNat 16 ((z.toNat + 1) % 256))).toNat +
        (s.peek (BitVec.ofNat 16 z.toNat)).toNat)

/-- R141 with R130, nine forms. -/
def Obligations.LdaLoadsAccumulator : Prop :=
  ∀ (v : Byte) (z : Byte) (w : Word) (s : State),
    Reads 0xA1 true (.ldaXInd z) (.mem (.xInd z)) 6 false (loads fun r m => { r with a := m }) 0 s ∧
    Reads 0xA5 true (.ldaZp z) (.mem (.zp z)) 3 false (loads fun r m => { r with a := m }) 0 s ∧
    Reads 0xA9 true (.ldaImm v) (.imm v) 2 false (loads fun r m => { r with a := m }) 0 s ∧
    Reads 0xAD true (.ldaAbs w) (.mem (.abs w)) 4 false (loads fun r m => { r with a := m }) 0 s ∧
    Reads 0xB1 true (.ldaIndY z) (.mem (.indY z)) 5 true (loads fun r m => { r with a := m }) 0 s ∧
    Reads 0xB2 false (.ldaZpInd z) (.mem (.zpInd z)) 5 false (loads fun r m => { r with a := m }) 0 s ∧
    Reads 0xB5 true (.ldaZpX z) (.mem (.zpX z)) 4 false (loads fun r m => { r with a := m }) 0 s ∧
    Reads 0xB9 true (.ldaAbsY w) (.mem (.absY w)) 4 true (loads fun r m => { r with a := m }) 0 s ∧
    Reads 0xBD true (.ldaAbsX w) (.mem (.absX w)) 4 true (loads fun r m => { r with a := m }) 0 s

/-- R142 and R143, ten forms. -/
def Obligations.LdxLdyLoadIndexRegisters : Prop :=
  ∀ (v : Byte) (z : Byte) (w : Word) (s : State),
    Reads 0xA2 true (.ldxImm v) (.imm v) 2 false (loads fun r m => { r with x := m }) 0 s ∧
    Reads 0xA6 true (.ldxZp z) (.mem (.zp z)) 3 false (loads fun r m => { r with x := m }) 0 s ∧
    Reads 0xAE true (.ldxAbs w) (.mem (.abs w)) 4 false (loads fun r m => { r with x := m }) 0 s ∧
    Reads 0xB6 true (.ldxZpY z) (.mem (.zpY z)) 4 false (loads fun r m => { r with x := m }) 0 s ∧
    Reads 0xBE true (.ldxAbsY w) (.mem (.absY w)) 4 true (loads fun r m => { r with x := m }) 0 s ∧
    Reads 0xA0 true (.ldyImm v) (.imm v) 2 false (loads fun r m => { r with y := m }) 0 s ∧
    Reads 0xA4 true (.ldyZp z) (.mem (.zp z)) 3 false (loads fun r m => { r with y := m }) 0 s ∧
    Reads 0xAC true (.ldyAbs w) (.mem (.abs w)) 4 false (loads fun r m => { r with y := m }) 0 s ∧
    Reads 0xB4 true (.ldyZpX z) (.mem (.zpX z)) 4 false (loads fun r m => { r with y := m }) 0 s ∧
    Reads 0xBC true (.ldyAbsX w) (.mem (.absX w)) 4 true (loads fun r m => { r with y := m }) 0 s

/-- R144 to R147, eighteen forms. -/
def Obligations.StoresWriteRegister : Prop :=
  ∀ (z : Byte) (w : Word) (s : State),
    Stores 0x81 true (.staXInd z) (.xInd z) s.a 6 s ∧
    Stores 0x85 true (.staZp z) (.zp z) s.a 3 s ∧
    Stores 0x8D true (.staAbs w) (.abs w) s.a 4 s ∧
    Stores 0x91 true (.staIndY z) (.indY z) s.a 6 s ∧
    Stores 0x92 false (.staZpInd z) (.zpInd z) s.a 5 s ∧
    Stores 0x95 true (.staZpX z) (.zpX z) s.a 4 s ∧
    Stores 0x99 true (.staAbsY w) (.absY w) s.a 5 s ∧
    Stores 0x9D true (.staAbsX w) (.absX w) s.a 5 s ∧
    Stores 0x86 true (.stxZp z) (.zp z) s.x 3 s ∧
    Stores 0x8E true (.stxAbs w) (.abs w) s.x 4 s ∧
    Stores 0x96 true (.stxZpY z) (.zpY z) s.x 4 s ∧
    Stores 0x84 true (.styZp z) (.zp z) s.y 3 s ∧
    Stores 0x8C true (.styAbs w) (.abs w) s.y 4 s ∧
    Stores 0x94 true (.styZpX z) (.zpX z) s.y 4 s ∧
    Stores 0x64 false (.stzZp z) (.zp z) 0x00 3 s ∧
    Stores 0x74 false (.stzZpX z) (.zpX z) 0x00 4 s ∧
    Stores 0x9C false (.stzAbs w) (.abs w) 0x00 4 s ∧
    Stores 0x9E false (.stzAbsX w) (.absX w) 0x00 5 s

/-- R148 to R153. -/
def Obligations.TransfersCopyRegisters : Prop :=
  ∀ s : State,
    Sets 0xAA true .tax { regsOf s with x := s.a, p := nz s.p s.a } 2 [] s ∧
    Sets 0xA8 true .tay { regsOf s with y := s.a, p := nz s.p s.a } 2 [] s ∧
    Sets 0x8A true .txa { regsOf s with a := s.x, p := nz s.p s.x } 2 [] s ∧
    Sets 0x98 true .tya { regsOf s with a := s.y, p := nz s.p s.y } 2 [] s ∧
    Sets 0xBA true .tsx { regsOf s with x := s.sp, p := nz s.p s.sp } 2 [] s ∧
    Sets 0x9A true .txs { regsOf s with sp := s.x } 2 [] s

/-- R171, nine forms. -/
def Obligations.AdcBinaryAddsWithCarry : Prop :=
  ∀ (v : Byte) (z : Byte) (w : Word) (s : State), s.p.d = false →
    Reads 0x61 true (.adcXInd z) (.mem (.xInd z)) 6 false addRegs 0 s ∧
    Reads 0x65 true (.adcZp z) (.mem (.zp z)) 3 false addRegs 0 s ∧
    Reads 0x69 true (.adcImm v) (.imm v) 2 false addRegs 0 s ∧
    Reads 0x6D true (.adcAbs w) (.mem (.abs w)) 4 false addRegs 0 s ∧
    Reads 0x71 true (.adcIndY z) (.mem (.indY z)) 5 true addRegs 0 s ∧
    Reads 0x72 false (.adcZpInd z) (.mem (.zpInd z)) 5 false addRegs 0 s ∧
    Reads 0x75 true (.adcZpX z) (.mem (.zpX z)) 4 false addRegs 0 s ∧
    Reads 0x79 true (.adcAbsY w) (.mem (.absY w)) 4 true addRegs 0 s ∧
    Reads 0x7D true (.adcAbsX w) (.mem (.absX w)) 4 true addRegs 0 s

/-- R173, nine forms, and its closing law. -/
def Obligations.SbcBinarySubtractsWithBorrow : Prop :=
  (∀ (v : Byte) (z : Byte) (w : Word) (s : State), s.p.d = false →
    Reads 0xE1 true (.sbcXInd z) (.mem (.xInd z)) 6 false subRegs 0 s ∧
    Reads 0xE5 true (.sbcZp z) (.mem (.zp z)) 3 false subRegs 0 s ∧
    Reads 0xE9 true (.sbcImm v) (.imm v) 2 false subRegs 0 s ∧
    Reads 0xED true (.sbcAbs w) (.mem (.abs w)) 4 false subRegs 0 s ∧
    Reads 0xF1 true (.sbcIndY z) (.mem (.indY z)) 5 true subRegs 0 s ∧
    Reads 0xF2 false (.sbcZpInd z) (.mem (.zpInd z)) 5 false subRegs 0 s ∧
    Reads 0xF5 true (.sbcZpX z) (.mem (.zpX z)) 4 false subRegs 0 s ∧
    Reads 0xF9 true (.sbcAbsY w) (.mem (.absY w)) 4 true subRegs 0 s ∧
    Reads 0xFD true (.sbcAbsX w) (.mem (.absX w)) 4 true subRegs 0 s) ∧
    ∀ (v : Byte) (s : State), s.p.d = false → exec (.sbcImm v) s = exec (.adcImm (v ^^^ 0xFF)) s

/-- R175, R176, R135 (d): the spec's decisions D13 and D25. -/
def Obligations.AdcDecimalCorrectsNibbles : Prop :=
  ∀ (v : Byte) (z : Byte) (w : Word) (s : State), s.p.d = true →
    AddsDecimal 0x61 true (.adcXInd z) (.mem (.xInd z)) 6 false s ∧
    AddsDecimal 0x65 true (.adcZp z) (.mem (.zp z)) 3 false s ∧
    AddsDecimal 0x69 true (.adcImm v) (.imm v) 2 false s ∧
    AddsDecimal 0x6D true (.adcAbs w) (.mem (.abs w)) 4 false s ∧
    AddsDecimal 0x71 true (.adcIndY z) (.mem (.indY z)) 5 true s ∧
    AddsDecimal 0x72 false (.adcZpInd z) (.mem (.zpInd z)) 5 false s ∧
    AddsDecimal 0x75 true (.adcZpX z) (.mem (.zpX z)) 4 false s ∧
    AddsDecimal 0x79 true (.adcAbsY w) (.mem (.absY w)) 4 true s ∧
    AddsDecimal 0x7D true (.adcAbsX w) (.mem (.absX w)) 4 true s

/-- R177, R178, R135 (d): the spec's decisions D13 and D25. -/
def Obligations.SbcDecimalCorrectsNibbles : Prop :=
  ∀ (v : Byte) (z : Byte) (w : Word) (s : State), s.p.d = true →
    SubtractsDecimal 0xE1 true (.sbcXInd z) (.mem (.xInd z)) 6 false s ∧
    SubtractsDecimal 0xE5 true (.sbcZp z) (.mem (.zp z)) 3 false s ∧
    SubtractsDecimal 0xE9 true (.sbcImm v) (.imm v) 2 false s ∧
    SubtractsDecimal 0xED true (.sbcAbs w) (.mem (.abs w)) 4 false s ∧
    SubtractsDecimal 0xF1 true (.sbcIndY z) (.mem (.indY z)) 5 true s ∧
    SubtractsDecimal 0xF2 false (.sbcZpInd z) (.mem (.zpInd z)) 5 false s ∧
    SubtractsDecimal 0xF5 true (.sbcZpX z) (.mem (.zpX z)) 4 false s ∧
    SubtractsDecimal 0xF9 true (.sbcAbsY w) (.mem (.absY w)) 4 true s ∧
    SubtractsDecimal 0xFD true (.sbcAbsX w) (.mem (.absX w)) 4 true s

/-- The closed forms of R175 and R177, V-DEC; the algorithm is the decision D13. -/
def Obligations.DecimalModeIsDecimalArithmetic : Prop :=
  ∀ (v : Byte) (s : State), s.p.d = true → validBcd s.a → validBcd v →
    (∃ t, exec (.adcImm v) s = .next t ∧
      t.a = bcd ((dec s.a + dec v + s.p.c.toNat) % 100) ∧
      t.p.c = decide (100 ≤ dec s.a + dec v + s.p.c.toNat)) ∧
    ∃ t, exec (.sbcImm v) s = .next t ∧
      t.a = bcd (((dec s.a : Int) - dec v - (1 - s.p.c.toNat)) % 100).toNat ∧
      t.p.c = decide (0 ≤ (dec s.a : Int) - dec v - (1 - s.p.c.toNat))

/-- R174, both directions of its reading. -/
def Obligations.OverflowIsLeavingTheSignedRange : Prop :=
  ∀ (a m : Byte) (c : Bool),
    (addOverflow a m c = decide (a.toInt + m.toInt + c.toNat < -128 ∨ 127 < a.toInt + m.toInt + c.toNat)) ∧
    (addOverflow a m c =
      ((a.getLsbD 7 == m.getLsbD 7) && ((addByte a m c).getLsbD 7 != a.getLsbD 7))) ∧
    (subOverflow a m c = decide (a.toInt - m.toInt - (1 - c.toNat) < -128 ∨
      127 < a.toInt - m.toInt - (1 - c.toNat))) ∧
    (subOverflow a m c =
      ((a.getLsbD 7 != m.getLsbD 7) && ((subByte a m c).getLsbD 7 != a.getLsbD 7))) ∧
    (addOverflow a m c = (~~~(a ^^^ m) &&& (a ^^^ addByte a m c)).getLsbD 7) ∧
    (subOverflow a m c = ((a ^^^ m) &&& (a ^^^ subByte a m c)).getLsbD 7) ∧
    (subOverflow a m c = addOverflow a (~~~m) c)

/-- R183 with R180, R181 and R182, fifteen forms. -/
def Obligations.ComparesSetCarryZeroNegative : Prop :=
  ∀ (v : Byte) (z : Byte) (w : Word) (s : State),
    Reads 0xC1 true (.cmpXInd z) (.mem (.xInd z)) 6 false (cmpRegs (·.a)) 0 s ∧
    Reads 0xC5 true (.cmpZp z) (.mem (.zp z)) 3 false (cmpRegs (·.a)) 0 s ∧
    Reads 0xC9 true (.cmpImm v) (.imm v) 2 false (cmpRegs (·.a)) 0 s ∧
    Reads 0xCD true (.cmpAbs w) (.mem (.abs w)) 4 false (cmpRegs (·.a)) 0 s ∧
    Reads 0xD1 true (.cmpIndY z) (.mem (.indY z)) 5 true (cmpRegs (·.a)) 0 s ∧
    Reads 0xD2 false (.cmpZpInd z) (.mem (.zpInd z)) 5 false (cmpRegs (·.a)) 0 s ∧
    Reads 0xD5 true (.cmpZpX z) (.mem (.zpX z)) 4 false (cmpRegs (·.a)) 0 s ∧
    Reads 0xD9 true (.cmpAbsY w) (.mem (.absY w)) 4 true (cmpRegs (·.a)) 0 s ∧
    Reads 0xDD true (.cmpAbsX w) (.mem (.absX w)) 4 true (cmpRegs (·.a)) 0 s ∧
    Reads 0xE0 true (.cpxImm v) (.imm v) 2 false (cmpRegs (·.x)) 0 s ∧
    Reads 0xE4 true (.cpxZp z) (.mem (.zp z)) 3 false (cmpRegs (·.x)) 0 s ∧
    Reads 0xEC true (.cpxAbs w) (.mem (.abs w)) 4 false (cmpRegs (·.x)) 0 s ∧
    Reads 0xC0 true (.cpyImm v) (.imm v) 2 false (cmpRegs (·.y)) 0 s ∧
    Reads 0xC4 true (.cpyZp z) (.mem (.zp z)) 3 false (cmpRegs (·.y)) 0 s ∧
    Reads 0xCC true (.cpyAbs w) (.mem (.abs w)) 4 false (cmpRegs (·.y)) 0 s

/-- R184 and R185, ten forms. -/
def Obligations.IncDecModifyByte : Prop :=
  ∀ (z : Byte) (w : Word) (s : State),
    Modifies 0x1A false .incAcc .acc (fun m => BitVec.ofNat 8 (m.toNat + 1)) (fun m => nz s.p (BitVec.ofNat 8 (m.toNat + 1))) 2 s ∧
    Modifies 0xE6 true (.incZp z) (.mem (.zp z)) (fun m => BitVec.ofNat 8 (m.toNat + 1)) (fun m => nz s.p (BitVec.ofNat 8 (m.toNat + 1))) 5 s ∧
    Modifies 0xEE true (.incAbs w) (.mem (.abs w)) (fun m => BitVec.ofNat 8 (m.toNat + 1)) (fun m => nz s.p (BitVec.ofNat 8 (m.toNat + 1))) 6 s ∧
    Modifies 0xF6 true (.incZpX z) (.mem (.zpX z)) (fun m => BitVec.ofNat 8 (m.toNat + 1)) (fun m => nz s.p (BitVec.ofNat 8 (m.toNat + 1))) 6 s ∧
    Modifies 0xFE true (.incAbsX w) (.mem (.absX w)) (fun m => BitVec.ofNat 8 (m.toNat + 1)) (fun m => nz s.p (BitVec.ofNat 8 (m.toNat + 1))) 7 s ∧
    Modifies 0x3A false .decAcc .acc (fun m => BitVec.ofNat 8 (m.toNat + 255)) (fun m => nz s.p (BitVec.ofNat 8 (m.toNat + 255))) 2 s ∧
    Modifies 0xC6 true (.decZp z) (.mem (.zp z)) (fun m => BitVec.ofNat 8 (m.toNat + 255)) (fun m => nz s.p (BitVec.ofNat 8 (m.toNat + 255))) 5 s ∧
    Modifies 0xCE true (.decAbs w) (.mem (.abs w)) (fun m => BitVec.ofNat 8 (m.toNat + 255)) (fun m => nz s.p (BitVec.ofNat 8 (m.toNat + 255))) 6 s ∧
    Modifies 0xD6 true (.decZpX z) (.mem (.zpX z)) (fun m => BitVec.ofNat 8 (m.toNat + 255)) (fun m => nz s.p (BitVec.ofNat 8 (m.toNat + 255))) 6 s ∧
    Modifies 0xDE true (.decAbsX w) (.mem (.absX w)) (fun m => BitVec.ofNat 8 (m.toNat + 255)) (fun m => nz s.p (BitVec.ofNat 8 (m.toNat + 255))) 7 s

/-- R186 to R189. -/
def Obligations.IndexRegistersCount : Prop :=
  ∀ s : State,
    Sets 0xE8 true .inx { regsOf s with x := BitVec.ofNat 8 (s.x.toNat + 1), p := nz s.p (BitVec.ofNat 8 (s.x.toNat + 1)) } 2 [] s ∧
    Sets 0xC8 true .iny { regsOf s with y := BitVec.ofNat 8 (s.y.toNat + 1), p := nz s.p (BitVec.ofNat 8 (s.y.toNat + 1)) } 2 [] s ∧
    Sets 0xCA true .dex { regsOf s with x := BitVec.ofNat 8 (s.x.toNat + 255), p := nz s.p (BitVec.ofNat 8 (s.x.toNat + 255)) } 2 [] s ∧
    Sets 0x88 true .dey { regsOf s with y := BitVec.ofNat 8 (s.y.toNat + 255), p := nz s.p (BitVec.ofNat 8 (s.y.toNat + 255)) } 2 [] s

/-- R200, R201 and R202, 27 forms. -/
def Obligations.LogicCombinesAccumulator : Prop :=
  ∀ (v : Byte) (z : Byte) (w : Word) (s : State),
    Reads 0x21 true (.andXInd z) (.mem (.xInd z)) 6 false (fun s m => loads (fun r b => { r with a := b }) s (s.a &&& m)) 0 s ∧
    Reads 0x25 true (.andZp z) (.mem (.zp z)) 3 false (fun s m => loads (fun r b => { r with a := b }) s (s.a &&& m)) 0 s ∧
    Reads 0x29 true (.andImm v) (.imm v) 2 false (fun s m => loads (fun r b => { r with a := b }) s (s.a &&& m)) 0 s ∧
    Reads 0x2D true (.andAbs w) (.mem (.abs w)) 4 false (fun s m => loads (fun r b => { r with a := b }) s (s.a &&& m)) 0 s ∧
    Reads 0x31 true (.andIndY z) (.mem (.indY z)) 5 true (fun s m => loads (fun r b => { r with a := b }) s (s.a &&& m)) 0 s ∧
    Reads 0x32 false (.andZpInd z) (.mem (.zpInd z)) 5 false (fun s m => loads (fun r b => { r with a := b }) s (s.a &&& m)) 0 s ∧
    Reads 0x35 true (.andZpX z) (.mem (.zpX z)) 4 false (fun s m => loads (fun r b => { r with a := b }) s (s.a &&& m)) 0 s ∧
    Reads 0x39 true (.andAbsY w) (.mem (.absY w)) 4 true (fun s m => loads (fun r b => { r with a := b }) s (s.a &&& m)) 0 s ∧
    Reads 0x3D true (.andAbsX w) (.mem (.absX w)) 4 true (fun s m => loads (fun r b => { r with a := b }) s (s.a &&& m)) 0 s ∧
    Reads 0x01 true (.oraXInd z) (.mem (.xInd z)) 6 false (fun s m => loads (fun r b => { r with a := b }) s (s.a ||| m)) 0 s ∧
    Reads 0x05 true (.oraZp z) (.mem (.zp z)) 3 false (fun s m => loads (fun r b => { r with a := b }) s (s.a ||| m)) 0 s ∧
    Reads 0x09 true (.oraImm v) (.imm v) 2 false (fun s m => loads (fun r b => { r with a := b }) s (s.a ||| m)) 0 s ∧
    Reads 0x0D true (.oraAbs w) (.mem (.abs w)) 4 false (fun s m => loads (fun r b => { r with a := b }) s (s.a ||| m)) 0 s ∧
    Reads 0x11 true (.oraIndY z) (.mem (.indY z)) 5 true (fun s m => loads (fun r b => { r with a := b }) s (s.a ||| m)) 0 s ∧
    Reads 0x12 false (.oraZpInd z) (.mem (.zpInd z)) 5 false (fun s m => loads (fun r b => { r with a := b }) s (s.a ||| m)) 0 s ∧
    Reads 0x15 true (.oraZpX z) (.mem (.zpX z)) 4 false (fun s m => loads (fun r b => { r with a := b }) s (s.a ||| m)) 0 s ∧
    Reads 0x19 true (.oraAbsY w) (.mem (.absY w)) 4 true (fun s m => loads (fun r b => { r with a := b }) s (s.a ||| m)) 0 s ∧
    Reads 0x1D true (.oraAbsX w) (.mem (.absX w)) 4 true (fun s m => loads (fun r b => { r with a := b }) s (s.a ||| m)) 0 s ∧
    Reads 0x41 true (.eorXInd z) (.mem (.xInd z)) 6 false (fun s m => loads (fun r b => { r with a := b }) s (s.a ^^^ m)) 0 s ∧
    Reads 0x45 true (.eorZp z) (.mem (.zp z)) 3 false (fun s m => loads (fun r b => { r with a := b }) s (s.a ^^^ m)) 0 s ∧
    Reads 0x49 true (.eorImm v) (.imm v) 2 false (fun s m => loads (fun r b => { r with a := b }) s (s.a ^^^ m)) 0 s ∧
    Reads 0x4D true (.eorAbs w) (.mem (.abs w)) 4 false (fun s m => loads (fun r b => { r with a := b }) s (s.a ^^^ m)) 0 s ∧
    Reads 0x51 true (.eorIndY z) (.mem (.indY z)) 5 true (fun s m => loads (fun r b => { r with a := b }) s (s.a ^^^ m)) 0 s ∧
    Reads 0x52 false (.eorZpInd z) (.mem (.zpInd z)) 5 false (fun s m => loads (fun r b => { r with a := b }) s (s.a ^^^ m)) 0 s ∧
    Reads 0x55 true (.eorZpX z) (.mem (.zpX z)) 4 false (fun s m => loads (fun r b => { r with a := b }) s (s.a ^^^ m)) 0 s ∧
    Reads 0x59 true (.eorAbsY w) (.mem (.absY w)) 4 true (fun s m => loads (fun r b => { r with a := b }) s (s.a ^^^ m)) 0 s ∧
    Reads 0x5D true (.eorAbsX w) (.mem (.absX w)) 4 true (fun s m => loads (fun r b => { r with a := b }) s (s.a ^^^ m)) 0 s

/-- R203, five forms. -/
def Obligations.BitTestsBits : Prop :=
  ∀ (v : Byte) (z : Byte) (w : Word) (s : State),
    Reads 0x24 true (.bitZp z) (.mem (.zp z)) 3 false (fun s m => { regsOf s with p := { s.p with z := decide (s.a &&& m = 0), n := m.getLsbD 7, v := m.getLsbD 6 } }) 0 s ∧
    Reads 0x2C true (.bitAbs w) (.mem (.abs w)) 4 false (fun s m => { regsOf s with p := { s.p with z := decide (s.a &&& m = 0), n := m.getLsbD 7, v := m.getLsbD 6 } }) 0 s ∧
    Reads 0x34 false (.bitZpX z) (.mem (.zpX z)) 4 false (fun s m => { regsOf s with p := { s.p with z := decide (s.a &&& m = 0), n := m.getLsbD 7, v := m.getLsbD 6 } }) 0 s ∧
    Reads 0x3C false (.bitAbsX w) (.mem (.absX w)) 4 true (fun s m => { regsOf s with p := { s.p with z := decide (s.a &&& m = 0), n := m.getLsbD 7, v := m.getLsbD 6 } }) 0 s ∧
    Reads 0x89 false (.bitImm v) (.imm v) 2 false (fun s m => { regsOf s with p := { s.p with z := decide (s.a &&& m = 0) } }) 0 s

/-- R204 and R205, ten forms. -/
def Obligations.ShiftsMoveOneBit : Prop :=
  ∀ (z : Byte) (w : Word) (s : State),
    Modifies 0x06 true (.aslZp z) (.mem (.zp z)) (fun m => BitVec.ofNat 8 (2 * m.toNat)) (fun m => { nz s.p (BitVec.ofNat 8 (2 * m.toNat)) with c := m.getLsbD 7 }) 5 s ∧
    Modifies 0x0A true .aslAcc .acc (fun m => BitVec.ofNat 8 (2 * m.toNat)) (fun m => { nz s.p (BitVec.ofNat 8 (2 * m.toNat)) with c := m.getLsbD 7 }) 2 s ∧
    Modifies 0x0E true (.aslAbs w) (.mem (.abs w)) (fun m => BitVec.ofNat 8 (2 * m.toNat)) (fun m => { nz s.p (BitVec.ofNat 8 (2 * m.toNat)) with c := m.getLsbD 7 }) 6 s ∧
    Modifies 0x16 true (.aslZpX z) (.mem (.zpX z)) (fun m => BitVec.ofNat 8 (2 * m.toNat)) (fun m => { nz s.p (BitVec.ofNat 8 (2 * m.toNat)) with c := m.getLsbD 7 }) 6 s ∧
    Modifies 0x1E true (.aslAbsX w) (.mem (.absX w)) (fun m => BitVec.ofNat 8 (2 * m.toNat)) (fun m => { nz s.p (BitVec.ofNat 8 (2 * m.toNat)) with c := m.getLsbD 7 }) (absXShiftCycles w s) s ∧
    Modifies 0x46 true (.lsrZp z) (.mem (.zp z)) (fun m => BitVec.ofNat 8 (m.toNat / 2)) (fun m => { nz s.p (BitVec.ofNat 8 (m.toNat / 2)) with c := m.getLsbD 0 }) 5 s ∧
    Modifies 0x4A true .lsrAcc .acc (fun m => BitVec.ofNat 8 (m.toNat / 2)) (fun m => { nz s.p (BitVec.ofNat 8 (m.toNat / 2)) with c := m.getLsbD 0 }) 2 s ∧
    Modifies 0x4E true (.lsrAbs w) (.mem (.abs w)) (fun m => BitVec.ofNat 8 (m.toNat / 2)) (fun m => { nz s.p (BitVec.ofNat 8 (m.toNat / 2)) with c := m.getLsbD 0 }) 6 s ∧
    Modifies 0x56 true (.lsrZpX z) (.mem (.zpX z)) (fun m => BitVec.ofNat 8 (m.toNat / 2)) (fun m => { nz s.p (BitVec.ofNat 8 (m.toNat / 2)) with c := m.getLsbD 0 }) 6 s ∧
    Modifies 0x5E true (.lsrAbsX w) (.mem (.absX w)) (fun m => BitVec.ofNat 8 (m.toNat / 2)) (fun m => { nz s.p (BitVec.ofNat 8 (m.toNat / 2)) with c := m.getLsbD 0 }) (absXShiftCycles w s) s

/-- R206 and R207, ten forms. -/
def Obligations.RotatesGoThroughCarry : Prop :=
  ∀ (z : Byte) (w : Word) (s : State),
    Modifies 0x26 true (.rolZp z) (.mem (.zp z)) (fun m => BitVec.ofNat 8 (2 * m.toNat + s.p.c.toNat)) (fun m => { nz s.p (BitVec.ofNat 8 (2 * m.toNat + s.p.c.toNat)) with c := m.getLsbD 7 }) 5 s ∧
    Modifies 0x2A true .rolAcc .acc (fun m => BitVec.ofNat 8 (2 * m.toNat + s.p.c.toNat)) (fun m => { nz s.p (BitVec.ofNat 8 (2 * m.toNat + s.p.c.toNat)) with c := m.getLsbD 7 }) 2 s ∧
    Modifies 0x2E true (.rolAbs w) (.mem (.abs w)) (fun m => BitVec.ofNat 8 (2 * m.toNat + s.p.c.toNat)) (fun m => { nz s.p (BitVec.ofNat 8 (2 * m.toNat + s.p.c.toNat)) with c := m.getLsbD 7 }) 6 s ∧
    Modifies 0x36 true (.rolZpX z) (.mem (.zpX z)) (fun m => BitVec.ofNat 8 (2 * m.toNat + s.p.c.toNat)) (fun m => { nz s.p (BitVec.ofNat 8 (2 * m.toNat + s.p.c.toNat)) with c := m.getLsbD 7 }) 6 s ∧
    Modifies 0x3E true (.rolAbsX w) (.mem (.absX w)) (fun m => BitVec.ofNat 8 (2 * m.toNat + s.p.c.toNat)) (fun m => { nz s.p (BitVec.ofNat 8 (2 * m.toNat + s.p.c.toNat)) with c := m.getLsbD 7 }) (absXShiftCycles w s) s ∧
    Modifies 0x66 true (.rorZp z) (.mem (.zp z)) (fun m => BitVec.ofNat 8 (128 * s.p.c.toNat + m.toNat / 2)) (fun m => { nz s.p (BitVec.ofNat 8 (128 * s.p.c.toNat + m.toNat / 2)) with c := m.getLsbD 0 }) 5 s ∧
    Modifies 0x6A true .rorAcc .acc (fun m => BitVec.ofNat 8 (128 * s.p.c.toNat + m.toNat / 2)) (fun m => { nz s.p (BitVec.ofNat 8 (128 * s.p.c.toNat + m.toNat / 2)) with c := m.getLsbD 0 }) 2 s ∧
    Modifies 0x6E true (.rorAbs w) (.mem (.abs w)) (fun m => BitVec.ofNat 8 (128 * s.p.c.toNat + m.toNat / 2)) (fun m => { nz s.p (BitVec.ofNat 8 (128 * s.p.c.toNat + m.toNat / 2)) with c := m.getLsbD 0 }) 6 s ∧
    Modifies 0x76 true (.rorZpX z) (.mem (.zpX z)) (fun m => BitVec.ofNat 8 (128 * s.p.c.toNat + m.toNat / 2)) (fun m => { nz s.p (BitVec.ofNat 8 (128 * s.p.c.toNat + m.toNat / 2)) with c := m.getLsbD 0 }) 6 s ∧
    Modifies 0x7E true (.rorAbsX w) (.mem (.absX w)) (fun m => BitVec.ofNat 8 (128 * s.p.c.toNat + m.toNat / 2)) (fun m => { nz s.p (BitVec.ofNat 8 (128 * s.p.c.toNat + m.toNat / 2)) with c := m.getLsbD 0 }) (absXShiftCycles w s) s

/-- R209 and R210, four forms. -/
def Obligations.TsbTrbTestAndModify : Prop :=
  ∀ (z : Byte) (w : Word) (s : State),
    Modifies 0x04 false (.tsbZp z) (.mem (.zp z)) (fun m => m ||| s.a) (fun m => { s.p with z := decide (s.a &&& m = 0) }) 5 s ∧
    Modifies 0x0C false (.tsbAbs w) (.mem (.abs w)) (fun m => m ||| s.a) (fun m => { s.p with z := decide (s.a &&& m = 0) }) 6 s ∧
    Modifies 0x14 false (.trbZp z) (.mem (.zp z)) (fun m => m &&& ~~~s.a) (fun m => { s.p with z := decide (s.a &&& m = 0) }) 5 s ∧
    Modifies 0x1C false (.trbAbs w) (.mem (.abs w)) (fun m => m &&& ~~~s.a) (fun m => { s.p with z := decide (s.a &&& m = 0) }) 6 s

/-- R211 and R212, sixteen instructions. -/
def Obligations.RmbSmbChangeOneBit : Prop :=
  ∀ (z : Byte) (s : State),
    Modifies 0x07 false (.rmb0 z) (.mem (.zp z)) (fun m => m &&& ~~~(BitVec.ofNat 8 1)) (fun _ => s.p) 5 s ∧
    Modifies 0x17 false (.rmb1 z) (.mem (.zp z)) (fun m => m &&& ~~~(BitVec.ofNat 8 2)) (fun _ => s.p) 5 s ∧
    Modifies 0x27 false (.rmb2 z) (.mem (.zp z)) (fun m => m &&& ~~~(BitVec.ofNat 8 4)) (fun _ => s.p) 5 s ∧
    Modifies 0x37 false (.rmb3 z) (.mem (.zp z)) (fun m => m &&& ~~~(BitVec.ofNat 8 8)) (fun _ => s.p) 5 s ∧
    Modifies 0x47 false (.rmb4 z) (.mem (.zp z)) (fun m => m &&& ~~~(BitVec.ofNat 8 16)) (fun _ => s.p) 5 s ∧
    Modifies 0x57 false (.rmb5 z) (.mem (.zp z)) (fun m => m &&& ~~~(BitVec.ofNat 8 32)) (fun _ => s.p) 5 s ∧
    Modifies 0x67 false (.rmb6 z) (.mem (.zp z)) (fun m => m &&& ~~~(BitVec.ofNat 8 64)) (fun _ => s.p) 5 s ∧
    Modifies 0x77 false (.rmb7 z) (.mem (.zp z)) (fun m => m &&& ~~~(BitVec.ofNat 8 128)) (fun _ => s.p) 5 s ∧
    Modifies 0x87 false (.smb0 z) (.mem (.zp z)) (fun m => m ||| BitVec.ofNat 8 1) (fun _ => s.p) 5 s ∧
    Modifies 0x97 false (.smb1 z) (.mem (.zp z)) (fun m => m ||| BitVec.ofNat 8 2) (fun _ => s.p) 5 s ∧
    Modifies 0xA7 false (.smb2 z) (.mem (.zp z)) (fun m => m ||| BitVec.ofNat 8 4) (fun _ => s.p) 5 s ∧
    Modifies 0xB7 false (.smb3 z) (.mem (.zp z)) (fun m => m ||| BitVec.ofNat 8 8) (fun _ => s.p) 5 s ∧
    Modifies 0xC7 false (.smb4 z) (.mem (.zp z)) (fun m => m ||| BitVec.ofNat 8 16) (fun _ => s.p) 5 s ∧
    Modifies 0xD7 false (.smb5 z) (.mem (.zp z)) (fun m => m ||| BitVec.ofNat 8 32) (fun _ => s.p) 5 s ∧
    Modifies 0xE7 false (.smb6 z) (.mem (.zp z)) (fun m => m ||| BitVec.ofNat 8 64) (fun _ => s.p) 5 s ∧
    Modifies 0xF7 false (.smb7 z) (.mem (.zp z)) (fun m => m ||| BitVec.ofNat 8 128) (fun _ => s.p) 5 s

/-- R240 with R241 to R249. -/
def Obligations.RelativeBranchesGoToTarget : Prop :=
  ∀ (d : Byte) (s : State),
    Branches 0x10 true (.bpl d) (!s.p.n) d 2 [] s ∧
    Branches 0x30 true (.bmi d) s.p.n d 2 [] s ∧
    Branches 0x50 true (.bvc d) (!s.p.v) d 2 [] s ∧
    Branches 0x70 true (.bvs d) s.p.v d 2 [] s ∧
    Branches 0x90 true (.bcc d) (!s.p.c) d 2 [] s ∧
    Branches 0xB0 true (.bcs d) s.p.c d 2 [] s ∧
    Branches 0xD0 true (.bne d) (!s.p.z) d 2 [] s ∧
    Branches 0xF0 true (.beq d) s.p.z d 2 [] s ∧
    Sets 0x80 false (.bra d) { regsOf s with pc := target s d }
      (3 + penalty s (otherPage (target s d) s.pc)) [] s

/-- R250 and R251, sixteen instructions. -/
def Obligations.BitBranchesTestZeroPage : Prop :=
  ∀ (z d : Byte) (s : State),
    Branches 0x0F false (.bbr0 z d) (!(s.peek (BitVec.ofNat 16 z.toNat)).getLsbD 0)
      d 5 [rd s (BitVec.ofNat 16 z.toNat)] s ∧
    Branches 0x1F false (.bbr1 z d) (!(s.peek (BitVec.ofNat 16 z.toNat)).getLsbD 1)
      d 5 [rd s (BitVec.ofNat 16 z.toNat)] s ∧
    Branches 0x2F false (.bbr2 z d) (!(s.peek (BitVec.ofNat 16 z.toNat)).getLsbD 2)
      d 5 [rd s (BitVec.ofNat 16 z.toNat)] s ∧
    Branches 0x3F false (.bbr3 z d) (!(s.peek (BitVec.ofNat 16 z.toNat)).getLsbD 3)
      d 5 [rd s (BitVec.ofNat 16 z.toNat)] s ∧
    Branches 0x4F false (.bbr4 z d) (!(s.peek (BitVec.ofNat 16 z.toNat)).getLsbD 4)
      d 5 [rd s (BitVec.ofNat 16 z.toNat)] s ∧
    Branches 0x5F false (.bbr5 z d) (!(s.peek (BitVec.ofNat 16 z.toNat)).getLsbD 5)
      d 5 [rd s (BitVec.ofNat 16 z.toNat)] s ∧
    Branches 0x6F false (.bbr6 z d) (!(s.peek (BitVec.ofNat 16 z.toNat)).getLsbD 6)
      d 5 [rd s (BitVec.ofNat 16 z.toNat)] s ∧
    Branches 0x7F false (.bbr7 z d) (!(s.peek (BitVec.ofNat 16 z.toNat)).getLsbD 7)
      d 5 [rd s (BitVec.ofNat 16 z.toNat)] s ∧
    Branches 0x8F false (.bbs0 z d) ((s.peek (BitVec.ofNat 16 z.toNat)).getLsbD 0)
      d 5 [rd s (BitVec.ofNat 16 z.toNat)] s ∧
    Branches 0x9F false (.bbs1 z d) ((s.peek (BitVec.ofNat 16 z.toNat)).getLsbD 1)
      d 5 [rd s (BitVec.ofNat 16 z.toNat)] s ∧
    Branches 0xAF false (.bbs2 z d) ((s.peek (BitVec.ofNat 16 z.toNat)).getLsbD 2)
      d 5 [rd s (BitVec.ofNat 16 z.toNat)] s ∧
    Branches 0xBF false (.bbs3 z d) ((s.peek (BitVec.ofNat 16 z.toNat)).getLsbD 3)
      d 5 [rd s (BitVec.ofNat 16 z.toNat)] s ∧
    Branches 0xCF false (.bbs4 z d) ((s.peek (BitVec.ofNat 16 z.toNat)).getLsbD 4)
      d 5 [rd s (BitVec.ofNat 16 z.toNat)] s ∧
    Branches 0xDF false (.bbs5 z d) ((s.peek (BitVec.ofNat 16 z.toNat)).getLsbD 5)
      d 5 [rd s (BitVec.ofNat 16 z.toNat)] s ∧
    Branches 0xEF false (.bbs6 z d) ((s.peek (BitVec.ofNat 16 z.toNat)).getLsbD 6)
      d 5 [rd s (BitVec.ofNat 16 z.toNat)] s ∧
    Branches 0xFF false (.bbs7 z d) ((s.peek (BitVec.ofNat 16 z.toNat)).getLsbD 7)
      d 5 [rd s (BitVec.ofNat 16 z.toNat)] s

/-- R252 with R123 and R124. The CMOS high-byte address is marked derived by R123 and the cycle counts D25. -/
def Obligations.JmpGoesToItsTarget : Prop :=
  ∀ (w : Word) (s : State),
    Sets 0x4C true (.jmpAbs w) { regsOf s with pc := w } 3 [] s ∧
    (s.cfg.variant = .nmos6502 →
      let hi : Word := BitVec.ofNat 16 (w.toNat / 256 * 256 + (w.toNat % 256 + 1) % 256)
      Sets 0x6C true (.jmpInd w) { regsOf s with
        pc := BitVec.ofNat 16 (256 * (s.peek hi).toNat + (s.peek w).toNat) } 5 [rd s hi, rd s w] s) ∧
    (s.cfg.variant = .cmos65c02 →
      Sets 0x6C true (.jmpInd w) { regsOf s with pc := wordAt s w } 6 [rd s (w + 1), rd s w] s) ∧
    let ptr : Word := BitVec.ofNat 16 (w.toNat + s.x.toNat)
    Sets 0x7C false (.jmpAbsXInd w) { regsOf s with pc := wordAt s ptr } 6
      [rd s (ptr + 1), rd s ptr] s

/-- R253. -/
def Obligations.JsrPushesReturnAddress : Prop :=
  ∀ (w : Word) (s : State),
    let hi : Byte := BitVec.ofNat 8 ((s.pc - 1).toNat / 256)
    let lo : Byte := BitVec.ofNat 8 (s.pc - 1).toNat
    HasOpcode (.jsr w) 0x20 true ∧
      Completes (.jsr w) s { regsOf s with sp := s.sp - 2, pc := w } 6
        (· = [wr s (stackAt (s.sp - 1)) lo, wr s (stackAt s.sp) hi]) (PushesTwo hi lo s)

/-- R254. -/
def Obligations.RtsReturnsPastPulledAddress : Prop :=
  ∀ s : State,
    Sets 0x60 true .rts { regsOf s with
      sp := s.sp + 2
      pc := BitVec.ofNat 16 (256 * (s.peek (stackAt (s.sp + 2))).toNat +
        (s.peek (stackAt (s.sp + 1))).toNat + 1) } 6
      [rd s (stackAt (s.sp + 2)), rd s (stackAt (s.sp + 1))] s

/-- R270, R271 and R274 to R277. -/
def Obligations.PushAndPullMoveRegisters : Prop :=
  ∀ s : State,
    Pushes 0x48 true .pha s.a s ∧
    Pushes 0xDA false .phx s.x s ∧
    Pushes 0x5A false .phy s.y s ∧
    Sets 0x68 true .pla { regsOf s with sp := s.sp + 1, a := s.peek (stackAt (s.sp + 1)), p := nz s.p (s.peek (stackAt (s.sp + 1))) } 4
      [rd s (stackAt (s.sp + 1))] s ∧
    Sets 0xFA false .plx { regsOf s with sp := s.sp + 1, x := s.peek (stackAt (s.sp + 1)), p := nz s.p (s.peek (stackAt (s.sp + 1))) } 4
      [rd s (stackAt (s.sp + 1))] s ∧
    Sets 0x7A false .ply { regsOf s with sp := s.sp + 1, y := s.peek (stackAt (s.sp + 1)), p := nz s.p (s.peek (stackAt (s.sp + 1))) } 4
      [rd s (stackAt (s.sp + 1))] s

/-- R272 and R273; bits 4 and 5 by the spec's decisions D6 and D18. -/
def Obligations.PhpPlpMoveStatus : Prop :=
  ∀ s : State,
    Pushes 0x08 true .php (s.p.toByte ||| 0x30) s ∧
    ∃ q : Status, q.toByte = s.peek (stackAt (s.sp + 1)) ||| 0x20 ∧
      Sets 0x28 true .plp { regsOf s with sp := s.sp + 1, p := q } 4 [rd s (stackAt (s.sp + 1))] s

/-- R280 to R286. -/
def Obligations.FlagInstructionsChangeOneFlag : Prop :=
  ∀ s : State,
    Sets 0x18 true .clc { regsOf s with p := { s.p with c := false } } 2 [] s ∧
    Sets 0x38 true .sec { regsOf s with p := { s.p with c := true } } 2 [] s ∧
    Sets 0x58 true .cli { regsOf s with p := { s.p with i := false } } 2 [] s ∧
    Sets 0x78 true .sei { regsOf s with p := { s.p with i := true } } 2 [] s ∧
    Sets 0xB8 true .clv { regsOf s with p := { s.p with v := false } } 2 [] s ∧
    Sets 0xD8 true .cld { regsOf s with p := { s.p with d := false } } 2 [] s ∧
    Sets 0xF8 true .sed { regsOf s with p := { s.p with d := true } } 2 [] s

/-- R290. -/
def Obligations.NopDoesNothing : Prop :=
  ∀ s : State, Sets 0xEA true .nop (regsOf s) 2 [] s

/-- R292 with R314; D and B unchanged by the decisions D12 and D6, the padding byte unread by D21. -/
def Obligations.BrkTakesSoftwareInterrupt : Prop :=
  ∀ s : State, HasOpcode .brk 0x00 true ∧ TakesSoftwareInterrupt .brk s

/-- R293. -/
def Obligations.RtiRestoresStatusAndPc : Prop :=
  ∀ s : State, 
    ∃ q : Status, q.toByte = s.peek (stackAt (s.sp + 1)) ||| 0x20 ∧
      Sets 0x40 true .rti { regsOf s with
        sp := s.sp + 3
        p := q
        pc := BitVec.ofNat 16 (256 * (s.peek (stackAt (s.sp + 3))).toNat +
          (s.peek (stackAt (s.sp + 2))).toNat) } 6
        [rd s (stackAt (s.sp + 3)), rd s (stackAt (s.sp + 2)), rd s (stackAt (s.sp + 1))] s

/-- R294 under AsBRK, the spec's decision D4. -/
def Obligations.IllegalOpcodesActAsBrk : Prop :=
  ∀ (op : Byte) (s : State), s.cfg.illegalPolicy = .asBRK →
    TakesSoftwareInterrupt (.illNmos op) s ∧ exec (.illNmos op) s = exec .brk s ∧
    TakesSoftwareInterrupt (.illCmos op) s ∧ exec (.illCmos op) s = exec .brk s

/-- R294 and R102 under Refuse, the spec's decision D4. -/
def Obligations.RefusePolicyRefusesIllegalOpcodes : Prop :=
  ∀ (op : Byte) (s : State), s.cfg.illegalPolicy = .refuse →
    exec (.illNmos op) s = .refused (.illegalOpcode op) ∧
    exec (.illCmos op) s = .refused (.illegalOpcode op) ∧
    (s.fetches → s.peek s.pc ∈ illegalBytes s.cfg.variant →
      step s = .refused (.illegalOpcode (s.peek s.pc)))

/-- R102 with R106 to R108; interrupt sampling is the decision D10 and the event order D16. -/
def Obligations.StepRunsDecodedInstruction : Prop :=
  ∀ (s : State) (i : Instr), s.fetches →
    decodeBytes s.cfg.variant (s.peek s.pc) (s.peek (s.pc + 1)) (s.peek (s.pc + 2)) = i →
    let u : State := { s with
      pc := s.pc + BitVec.ofNat 16 i.length
      trace := operandReads s i.operandBytes ++
        .aboutToExecute s.pc (s.peek s.pc) :: rd s s.pc :: s.trace }
    step s =
      match exec i u with
      | .next t => .next (t.emit (.justExecuted s.pc (s.peek s.pc)))
      | .fault f => .fault f
      | .refused r => .refused r

/-- R311, R314, R317. -/
def Obligations.NmiEntryComesFirst : Prop :=
  ∀ s : State, s.runState = .running → s.nmiPending = true →
    ∃ t, step s = .next t ∧ Enters s.pc 0xFFFA (pushedStatus s) s t ∧ t.nmiPending = false ∧
      t.cycles = s.cycles + 7 ∧ SameControl s { t with nmiPending := s.nmiPending }

/-- R312, R314. -/
def Obligations.IrqEntryWhenUnmasked : Prop :=
  ∀ s : State, s.runState = .running → s.nmiPending = false → s.irqLine = true → s.p.i = false →
    ∃ t, step s = .next t ∧ Enters s.pc 0xFFFE (pushedStatus s) s t ∧
      t.cycles = s.cycles + 7 ∧ SameControl s t

/-- R105 part (b) and R326, the decision D29. -/
def Obligations.OnlyRunningStatesStep : Prop :=
  ∀ (s : State) (sched : List (List HostAction)), s.runState ≠ .running →
    step s = .refused (.notRunning s.runState) ∧ s.hostRun sched = .refused (.notRunning s.runState)

/-- R76 and R77, a few rows. -/
def Obligations.KnownWordsDecode : Prop :=
  (∀ v : Variant,
      decode v [0b10101001, 0x42] = .ok (.ldaImm 0x42, []) ∧
      decode v [0b10110001, 0x40] = .ok (.ldaIndY 0x40, []) ∧
      decode v [0b10001101, 0x34, 0x12] = .ok (.staAbs 0x1234, []) ∧
      decode v [0b01111110, 0xFF, 0x30] = .ok (.rorAbsX 0x30FF, [])) ∧
    decode .cmos65c02 [0b00011010] = .ok (.incAcc, []) ∧
    decode .cmos65c02 [0b11111111, 0x10, 0xFB] = .ok (.bbs7 0x10 0xFB, []) ∧
    decode .cmos65c02 [0b01111100, 0x00, 0x30] = .ok (.jmpAbsXInd 0x3000, []) ∧
    decode .nmos6502 [0b00011010] = .ok (.illNmos 0x1A, []) ∧
    decode .nmos6502 [0b10001001] = .ok (.illNmos 0x89, []) ∧
    decode .cmos65c02 [0b11001011] = .ok (.illCmos 0xCB, [])

/-- R70, R73, R76, R77: no bit of an encoding is dropped. -/
def Obligations.DecodeEncodeRoundTrip : Prop :=
  ∀ (v : Variant) (i : Instr) (rest : List Byte), i.wellFormed v = true →
    decode v (encode i ++ rest) = .ok (i, rest)

/-- R75, R76, R77, R365. -/
def Obligations.EveryByteHasOneInstruction : Prop :=
  (∀ (v : Variant) (op b1 b2 : Byte),
      (decodeBytes v op b1 b2).wellFormed v = true ∧
      encode (decodeBytes v op b1 b2) = [op, b1, b2].take (decodeBytes v op b1 b2).length ∧
      (decodeBytes v op b1 b2 = fallbackEntry v op ↔ op ∈ illegalBytes v)) ∧
    (illegalBytes .nmos6502).length = 105 ∧ (illegalBytes .cmos65c02).length = 46

/-- The integrity checks of 95_test_vectors.md S6 on R76. -/
def Obligations.BaseCyclesOfTheTable : Prop :=
  (∀ (v : Variant) (op : Byte), 2 ≤ ((decodeBytes v op 0 0).cost v).base ∧
      ((decodeBytes v op 0 0).cost v).base ≤ 7) ∧
    sumOfBaseCycles .nmos6502 = 1324 ∧ sumOfBaseCycles .cmos65c02 = 1183

/-- R42, R43, R56 (b); the events are read off the trace of log 5. -/
def Obligations.ReadAndWriteEffects : Prop :=
  ∀ (s : State) (a : Word) (v : Byte),
    s.noteRead a = { s with trace := .byteRead a (s.peek a) :: s.trace } ∧
    (s.isLocked a = false →
      (∀ b, (s.write a v).peek b = if b = a then v else s.peek b) ∧
      s.write a v = { s with mem := (s.write a v).mem, trace := .byteWritten a v :: s.trace }) ∧
    (s.isLocked a = true → s.write a v = { s with trace := .invalidWrite a v :: s.trace })

/-- R131 and R132. -/
def Obligations.PushAndPopAreInverse : Prop :=
  ∀ (s : State) (v : Byte),
    (s.push v).sp = s.sp - 1 ∧ StoresByte (stackAt s.sp) v s (s.push v) ∧
    s.popped.sp = s.sp + 1 ∧ s.popValue = s.peek (stackAt (s.sp + 1)) ∧ SameMemory s s.popped ∧
    (s.push v).popped.sp = s.sp ∧
    (s.isLocked (stackAt s.sp) = false → (s.push v).popValue = v)

/-- R351 and R28; A, Y, S and P by the decision D7, cycles by D8. -/
def Obligations.ResetLoadsVectorAndRegisters : Prop :=
  ∀ s : State, ∃ q : Status, q.toByte = s.cfg.resetP ||| 0x20 ∧
    s.hostReset = { s with
      a := s.cfg.resetA
      x := 0x80
      y := s.cfg.resetY
      sp := s.cfg.resetS
      p := q
      pc := wordAt s 0xFFFC
      cycles := 0
      nmiPending := false
      proceed := true
      runState := .running
      trace := rd s 0xFFFD :: rd s 0xFFFC :: s.trace }

/-- R28, R29, R351, R354. The VARIANT of the reset state is the model's choice (log 1). -/
def Obligations.ResetStateIsPowerOnThenReset : Prop :=
  State.reset = (State.powerOn (Config.standard .cmos65c02)).hostReset ∧
    State.reset.pc = 0x0000 ∧ State.reset.a = 0x00 ∧ State.reset.x = 0x80 ∧ State.reset.y = 0x00 ∧
    State.reset.sp = 0xFF ∧ State.reset.p.toByte = 0x24 ∧ State.reset.cycles = 0 ∧
    State.reset.runState = .running ∧ State.reset.proceed = true ∧ State.reset.nmiPending = false ∧
    ∀ a, State.reset.peek a = 0x00 ∧ State.reset.isLocked a = false

/-- R100 and R30; proceed by the decision D17. -/
def Obligations.StartSetsPcAndZeroesCycles : Prop :=
  ∀ (s : State) (w : Word),
    s.hostStart w = { s with pc := w, cycles := 0, runState := .running, proceed := true }

/-- R44 and the property of R54; loads ignore locks by the decision D23. -/
def Obligations.LoadImageStoresAndLocks : Prop :=
  ∀ (s : State) (bytes : List Byte) (offset : Word) (lockFlag : Bool),
    (65536 < offset.toNat + bytes.length → s.loadImage bytes offset lockFlag = .error .outOfRange) ∧
    (offset.toNat + bytes.length ≤ 65536 → ∃ t, s.loadImage bytes offset lockFlag = .ok (bytes.length, t) ∧
      t = { s with mem := t.mem, lock := t.lock } ∧
      ∀ b : Word,
        let inside := offset.toNat ≤ b.toNat ∧ b.toNat < offset.toNat + bytes.length
        (inside → bytes[b.toNat - offset.toNat]? = some (t.peek b) ∧
          t.isLocked b = (lockFlag || s.isLocked b) ∧
          (lockFlag = true → ∀ v, SameMemory t (t.write b v))) ∧
        (¬inside → t.peek b = s.peek b ∧ t.isLocked b = s.isLocked b))

/-- R45. -/
def Obligations.ClearZeroesAndUnlocks : Prop :=
  ∀ s : State, (∀ a, s.hostClear.peek a = 0x00 ∧ s.hostClear.isLocked a = false) ∧
    s.hostClear = { s with mem := s.hostClear.mem, lock := s.hostClear.lock }

/-- R105 and R103; D16, D17. The schedule is the model's own (log 6, DEDUCED), and so is that `proceed` is
read once after all actions of an entry (log 6, DESIGN CHOICE). -/
def Obligations.RunEndsHaltedWhenProceedIsCleared : Prop :=
  ∀ (s : State) (sched : List (List HostAction)), s.runState = .running →
    (s.proceed = false → s.hostRun sched = .finished { s with
      runState := .halted, trace := .runFinished :: .runStarting :: s.trace }) ∧
    (∀ t actions rest, s.proceed = true → step (s.emit .runStarting) = .next t →
      s.hostRun (actions :: rest) = runLoop rest (t.acts actions)) ∧
    (∀ u t actions rest, u.proceed = true → step u = .next t →
      runLoop (actions :: rest) u = runLoop rest (t.acts actions)) ∧
    (∀ u : State, u.proceed = false → runLoop sched u = .finished { u with
      runState := .halted, trace := .runFinished :: u.trace }) ∧
    (∀ t, s.proceed = true → step (s.emit .runStarting) = .next t →
      s.hostRun [[.clearProceed]] = .finished { t with
        proceed := false, runState := .halted, trace := .runFinished :: t.trace }) ∧
    (∀ t, s.hostRun sched = .finished t →
      t.runState = .halted ∧ t.proceed = false ∧ t.trace.head? = some .runFinished) ∧
    ∀ t, s.hostRun sched = .running t → t.proceed = true

/-- R126 with R46 and R47; the order is the decision D15, read off the trace of log 5. -/
def Obligations.PointersReadLowByteFirst : Prop :=
  ∀ (s : State) (z : Byte),
    let xLow : Word := BitVec.ofNat 16 ((z.toNat + s.x.toNat) % 256)
    let xHigh : Word := BitVec.ofNat 16 ((z.toNat + s.x.toNat + 1) % 256)
    let low : Word := BitVec.ofNat 16 z.toNat
    let high : Word := BitVec.ofNat 16 ((z.toNat + 1) % 256)
    (∀ i ∈ [Instr.ldaXInd z, .adcXInd z, .sbcXInd z, .cmpXInd z, .andXInd z, .oraXInd z, .eorXInd z],
      Accesses i s [rd s ((MemOperand.xInd z).ea s), rd s xHigh, rd s xLow]) ∧
    (∀ i ∈ [Instr.ldaIndY z, .adcIndY z, .sbcIndY z, .cmpIndY z, .andIndY z, .oraIndY z, .eorIndY z],
      Accesses i s [rd s ((MemOperand.indY z).ea s), rd s high, rd s low]) ∧
    (∀ i ∈ [Instr.ldaZpInd z, .adcZpInd z, .sbcZpInd z, .cmpZpInd z, .andZpInd z, .oraZpInd z, .eorZpInd z],
      Accesses i s [rd s ((MemOperand.zpInd z).ea s), rd s high, rd s low]) ∧
    Accesses (.staXInd z) s [wr s ((MemOperand.xInd z).ea s) s.a, rd s xHigh, rd s xLow] ∧
    Accesses (.staIndY z) s [wr s ((MemOperand.indY z).ea s) s.a, rd s high, rd s low] ∧
    Accesses (.staZpInd z) s [wr s ((MemOperand.zpInd z).ea s) s.a, rd s high, rd s low]

/-- R136 and R332; D16. -/
def Obligations.EventsBracketTheInstruction : Prop :=
  ∀ s t : State, s.fetches → step s = .next t →
    ∃ accesses : List Event, (∀ e ∈ accesses, isAccess e = true) ∧
      t.trace = .justExecuted s.pc (s.peek s.pc) :: (accesses ++
        .aboutToExecute s.pc (s.peek s.pc) :: rd s s.pc :: s.trace)

/-- The model's representation of R41 (log 7), from every state. -/
def Obligations.StepKeepsCanonicalForm : Prop :=
  ∀ s t : State, s.wf = true → step s = .next t → t.wf = true

/-- The model's representation of R41 (log 7). -/
def Obligations.ResetStateIsCanonical : Prop :=
  State.reset.wf = true ∧ ∀ (s : State) (h : HostAction), s.wf = true → (s.act h).wf = true

/-- R41, R54, R56 (c): ROM is ROM. -/
def Obligations.LockedBytesNeverChange : Prop :=
  ∀ s t : State, step s = .next t →
    t.lock = s.lock ∧ ∀ a, s.isLocked a = true → t.peek a = s.peek a

/-- R23, R24, R104, R311, R321. The configuration is a field of State by the model's choice (log 2);
`irq_line` and `nmi_pending` are the spec's decision D10. -/
def Obligations.HostOwnedStateIsKept : Prop :=
  ∀ s t : State, step s = .next t →
    t.cfg = s.cfg ∧ t.runState = .running ∧ t.proceed = s.proceed ∧ t.irqLine = s.irqLine ∧
      t.nmiPending = false ∧ (s.nmiPending = true → t = s.enterNmi)

/-- R313, R365, R104. The configuration is a field of State by the model's choice (log 2). -/
def Obligations.RunningMachineNeverStops : Prop :=
  ∀ s : State, s.runState = .running →
    (s.cfg.illegalPolicy = .asBRK ∨ s.peek s.pc ∉ illegalBytes s.cfg.variant) →
    ∃ t, step s = .next t ∧ t.runState = .running ∧ t.cfg = s.cfg

/-- R370 for `cycles`, R31 for the trace, which stands in State by the model's choice (log 5). -/
def Obligations.TimingIsNotObservable : Prop :=
  ∀ s s' t : State, s.agreesButTiming s' → step s = .next t →
    ∃ t', step s' = .next t' ∧ t.agreesButTiming t' ∧ t.cycles - s.cycles = t'.cycles - s'.cycles

/-- D1: "Nothing else depends on it"; R123, D25. -/
def Obligations.VariantsDifferOnlyWhereStated : Prop :=
  (∀ op b1 b2 : Byte, op ∉ illegalBytes .nmos6502 →
      decodeBytes .cmos65c02 op b1 b2 = decodeBytes .nmos6502 op b1 b2) ∧
    ∀ (i : Instr) (s t : State), i.legalIn .nmos6502 = true → i.legalIn .cmos65c02 = true →
      s.cfg.decimalFlags = .byRule → (∀ w, i = .jmpInd w → lowByte w ≠ 0xFF) →
      exec i (withVariant s .nmos6502) = .next t →
      ∃ u, exec i (withVariant s .cmos65c02) = .next u ∧
        { withVariant t .cmos65c02 with cycles := u.cycles } = u
end

