-- ==== Sys2Proof/Laws/Memory.lean ====
section
/-! SUPPORT. The laws of memory and of the lock mask: read after write, and that every operation keeps the
canonical form. -/

namespace Sys2Proof.Machine

/-! ### Read after write (R56 (b)) -/

theorem Memory.read_insert (m : Memory) (a b : Nat) (v : Byte) :
    (m.insert a v).read b = if b = a then v else m.read b := by
  induction m with
  | nil =>
    by_cases h : b = a
    · simp [Memory.insert, Memory.read, h]
    · simp [Memory.insert, Memory.read, h, Ne.symm h]
  | cons c m ih =>
    obtain ⟨k, w⟩ := c
    simp only [Memory.insert]
    split
    · by_cases h : b = a
      · simp [Memory.read, h]
      · simp [Memory.read, h, Ne.symm h]
    · split
      · subst k
        by_cases h : b = a
        · simp [Memory.read, h]
        · simp [Memory.read, h, Ne.symm h]
      · rename_i h1 h2
        by_cases hk : k = b
        · subst hk
          have : ¬ k = a := by omega
          simp [Memory.read, this]
        · simp [Memory.read, hk, ih]

theorem Memory.read_erase (m : Memory) (a b : Nat) :
    (m.erase a).read b = if b = a then unlistedByte else m.read b := by
  induction m with
  | nil => simp [Memory.erase, Memory.read]
  | cons c m ih =>
    obtain ⟨k, w⟩ := c
    simp only [Memory.erase] at ih ⊢
    by_cases hk : k = a
    · subst hk
      by_cases hb : b = k
      · simp [hb] at ih ⊢
        exact ih
      · simp [Memory.read, hb, Ne.symm hb] at ih ⊢
        exact ih
    · by_cases hb : k = b
      · subst hb
        simp [Memory.read, hk]
      · simp [Memory.read, hk, hb]
        exact ih

/-- Reading after a write: the byte written at its address, every other byte as before. -/
theorem Memory.read_write (m : Memory) (a b : Nat) (v : Byte) :
    (m.write a v).read b = if b = a then v else m.read b := by
  unfold Memory.write
  split
  · rename_i h
    rw [Memory.read_erase, h]
  · exact Memory.read_insert m a b v

@[simp] theorem Memory.read_write_self (m : Memory) (a : Nat) (v : Byte) :
    (m.write a v).read a = v := by simp [Memory.read_write]

theorem Memory.read_write_of_ne (m : Memory) {a b : Nat} (v : Byte) (h : b ≠ a) :
    (m.write a v).read b = m.read b := by simp [Memory.read_write, h]

/-! ### The canonical form is kept -/

theorem Memory.canonicalFrom_mono {m : Memory} {lo lo' : Nat} (h : lo' ≤ lo)
    (hm : m.canonicalFrom lo = true) : m.canonicalFrom lo' = true := by
  cases m with
  | nil => rfl
  | cons c m =>
    obtain ⟨k, w⟩ := c
    simp only [Memory.canonicalFrom, Bool.and_eq_true, decide_eq_true_eq] at hm ⊢
    exact ⟨⟨⟨by omega, hm.1.1.2⟩, hm.1.2⟩, hm.2⟩

theorem Memory.canonicalFrom_insert {m : Memory} {lo a : Nat} {v : Byte}
    (hm : m.canonicalFrom lo = true) (hlo : lo ≤ a) (ha : a < 65536) (hv : v ≠ unlistedByte) :
    (m.insert a v).canonicalFrom lo = true := by
  induction m generalizing lo with
  | nil => simp [Memory.insert, Memory.canonicalFrom, hlo, ha, hv]
  | cons c m ih =>
    obtain ⟨k, w⟩ := c
    have hm' := hm
    simp only [Memory.canonicalFrom, Bool.and_eq_true, decide_eq_true_eq] at hm'
    obtain ⟨⟨⟨h1, h2⟩, h3⟩, h4⟩ := hm'
    simp only [Memory.insert]
    split
    · simp only [Memory.canonicalFrom, Bool.and_eq_true, decide_eq_true_eq]
      simp [hlo, ha, hv, h2, h3, h4]
      omega
    · split
      · subst k
        simp [Memory.canonicalFrom, hlo, ha, hv, h4]
      · simp only [Memory.canonicalFrom, Bool.and_eq_true, decide_eq_true_eq]
        exact ⟨⟨⟨h1, h2⟩, h3⟩, ih h4 (by omega)⟩

theorem Memory.canonicalFrom_erase {m : Memory} {lo : Nat} (a : Nat)
    (hm : m.canonicalFrom lo = true) : (m.erase a).canonicalFrom lo = true := by
  induction m generalizing lo with
  | nil => exact hm
  | cons c m ih =>
    obtain ⟨k, w⟩ := c
    simp only [Memory.canonicalFrom, Bool.and_eq_true, decide_eq_true_eq] at hm
    obtain ⟨⟨⟨h1, h2⟩, h3⟩, h4⟩ := hm
    have ih' := ih h4
    simp only [Memory.erase] at ih' ⊢
    by_cases hk : k = a
    · simp [hk] at ih' ⊢
      exact Memory.canonicalFrom_mono (by omega) ih'
    · simp [hk, Memory.canonicalFrom, h1, h2]
      exact ⟨by simpa using h3, ih'⟩

/-- A write keeps the canonical form of memory. -/
theorem Memory.wf_write {m : Memory} {a : Nat} (v : Byte) (hm : m.wf = true) (ha : a < 65536) :
    (m.write a v).wf = true := by
  unfold Memory.write
  split
  · exact Memory.canonicalFrom_erase a hm
  · rename_i h
    exact Memory.canonicalFrom_insert hm (Nat.zero_le _) ha h

/-- An image load that fits keeps the canonical form of memory. -/
theorem Memory.wf_load {m : Memory} {a : Nat} {bytes : List Byte} (hm : m.wf = true)
    (ha : a + bytes.length ≤ 65536) : (m.load a bytes).wf = true := by
  induction bytes generalizing m a with
  | nil => exact hm
  | cons v l ih =>
    simp only [List.length_cons] at ha
    exact ih (Memory.wf_write v hm (by omega)) (by omega)

/-- Below its bound a canonical memory lists nothing. -/
theorem Memory.read_below {m : Memory} {lo b : Nat} (hm : m.canonicalFrom lo = true) (hb : b < lo) :
    m.read b = unlistedByte := by
  induction m generalizing lo with
  | nil => rfl
  | cons c m ih =>
    obtain ⟨k, w⟩ := c
    simp only [Memory.canonicalFrom, Bool.and_eq_true, decide_eq_true_eq] at hm
    have : ¬ k = b := by omega
    simp [Memory.read, this, ih hm.2 (by omega)]

/-- Canonical memories that read alike are equal data. -/
theorem Memory.ext_of_canonical {m n : Memory} {lo : Nat} (hm : m.canonicalFrom lo = true)
    (hn : n.canonicalFrom lo = true) (h : ∀ a, m.read a = n.read a) : m = n := by
  induction m generalizing n lo with
  | nil =>
    cases n with
    | nil => rfl
    | cons c n =>
      obtain ⟨k, w⟩ := c
      simp only [Memory.canonicalFrom, Bool.and_eq_true, bne_iff_ne] at hn
      have := h k
      simp [Memory.read] at this
      exact absurd this.symm hn.1.2
  | cons c m ih =>
    obtain ⟨k, w⟩ := c
    simp only [Memory.canonicalFrom, Bool.and_eq_true, bne_iff_ne, decide_eq_true_eq] at hm
    cases n with
    | nil =>
      have := h k
      simp [Memory.read] at this
      exact absurd this hm.1.2
    | cons c' n =>
      obtain ⟨k', w'⟩ := c'
      simp only [Memory.canonicalFrom, Bool.and_eq_true, bne_iff_ne, decide_eq_true_eq] at hn
      have hk : k = k' := by
        rcases Nat.lt_trichotomy k k' with hlt | heq | hgt
        · have := h k
          simp [Memory.read, Nat.ne_of_gt hlt, Memory.read_below hn.2 (by omega : k < k' + 1)] at this
          exact absurd this hm.1.2
        · exact heq
        · have := h k'
          simp [Memory.read, Nat.ne_of_gt hgt, Memory.read_below hm.2 (by omega : k' < k + 1)] at this
          exact absurd this.symm hn.1.2
      subst hk
      have hw : w = w' := by simpa [Memory.read] using h k
      subst hw
      have : m = n := by
        refine ih hm.2 hn.2 fun a => ?_
        by_cases ha : k = a
        · subst ha
          rw [Memory.read_below hm.2 (Nat.lt_succ_self k), Memory.read_below hn.2 (Nat.lt_succ_self k)]
        · simpa [Memory.read, ha] using h a
      rw [this]

/-! ### The lock mask -/

theorem LockMask.locked_add (l : LockMask) (a b : Nat) :
    (l.add a).locked b = (decide (b = a) || l.locked b) := by
  induction l with
  | nil => simp [LockMask.add, LockMask.locked]
  | cons k l ih =>
    simp only [LockMask.add]
    simp only [LockMask.locked] at ih
    split
    · simp [LockMask.locked]
    · split
      · subst k
        by_cases h : b = a <;> simp [LockMask.locked, h]
      · simp only [LockMask.locked, List.contains_cons, ih]
        cases b == k <;> simp

theorem LockMask.canonicalFrom_add {l : LockMask} {lo a : Nat} (hl : l.canonicalFrom lo = true)
    (hlo : lo ≤ a) (ha : a < 65536) : (l.add a).canonicalFrom lo = true := by
  induction l generalizing lo with
  | nil => simp [LockMask.add, LockMask.canonicalFrom, hlo, ha]
  | cons k l ih =>
    have hl' := hl
    simp only [LockMask.canonicalFrom, Bool.and_eq_true, decide_eq_true_eq] at hl'
    simp only [LockMask.add]
    split
    · simp only [LockMask.canonicalFrom, Bool.and_eq_true, decide_eq_true_eq]
      exact ⟨⟨hlo, ha⟩, ⟨by omega, hl'.1.2⟩, hl'.2⟩
    · split
      · exact hl
      · simp only [LockMask.canonicalFrom, Bool.and_eq_true, decide_eq_true_eq]
        exact ⟨hl'.1, ih hl'.2 (by omega)⟩

/-- Locking an address keeps the canonical form of the lock mask. -/
theorem LockMask.wf_add {l : LockMask} {a : Nat} (hl : l.wf = true) (ha : a < 65536) :
    (l.add a).wf = true := LockMask.canonicalFrom_add hl (Nat.zero_le _) ha

theorem LockMask.wf_addRange {l : LockMask} {a n : Nat} (hl : l.wf = true) (ha : a + n ≤ 65536) :
    (l.addRange a n).wf = true := by
  induction n generalizing l a with
  | zero => exact hl
  | succ n ih => exact ih (LockMask.wf_add hl (by omega)) (by omega)

end Sys2Proof.Machine
end

