-- ==== Sys2Proof/Laws/State.lean ====
section
/-! SUPPORT. One lemma per field per update of the state, true by rfl, so that no proof unfolds a record
update. -/

namespace Sys2Proof.Machine

/-! ### withA -/

@[simp] theorem State.withA_cfg (s : State) (v : Byte) : (s.withA v).cfg = s.cfg := rfl
@[simp] theorem State.withA_pc (s : State) (v : Byte) : (s.withA v).pc = s.pc := rfl
@[simp] theorem State.withA_a (s : State) (v : Byte) : (s.withA v).a = v := rfl
@[simp] theorem State.withA_x (s : State) (v : Byte) : (s.withA v).x = s.x := rfl
@[simp] theorem State.withA_y (s : State) (v : Byte) : (s.withA v).y = s.y := rfl
@[simp] theorem State.withA_sp (s : State) (v : Byte) : (s.withA v).sp = s.sp := rfl
@[simp] theorem State.withA_p (s : State) (v : Byte) : (s.withA v).p = s.p := rfl
@[simp] theorem State.withA_cycles (s : State) (v : Byte) : (s.withA v).cycles = s.cycles := rfl
@[simp] theorem State.withA_runState (s : State) (v : Byte) : (s.withA v).runState = s.runState := rfl
@[simp] theorem State.withA_proceed (s : State) (v : Byte) : (s.withA v).proceed = s.proceed := rfl
@[simp] theorem State.withA_irqLine (s : State) (v : Byte) : (s.withA v).irqLine = s.irqLine := rfl
@[simp] theorem State.withA_nmiPending (s : State) (v : Byte) : (s.withA v).nmiPending = s.nmiPending := rfl
@[simp] theorem State.withA_mem (s : State) (v : Byte) : (s.withA v).mem = s.mem := rfl
@[simp] theorem State.withA_lock (s : State) (v : Byte) : (s.withA v).lock = s.lock := rfl
@[simp] theorem State.withA_trace (s : State) (v : Byte) : (s.withA v).trace = s.trace := rfl

/-! ### withX -/

@[simp] theorem State.withX_cfg (s : State) (v : Byte) : (s.withX v).cfg = s.cfg := rfl
@[simp] theorem State.withX_pc (s : State) (v : Byte) : (s.withX v).pc = s.pc := rfl
@[simp] theorem State.withX_a (s : State) (v : Byte) : (s.withX v).a = s.a := rfl
@[simp] theorem State.withX_x (s : State) (v : Byte) : (s.withX v).x = v := rfl
@[simp] theorem State.withX_y (s : State) (v : Byte) : (s.withX v).y = s.y := rfl
@[simp] theorem State.withX_sp (s : State) (v : Byte) : (s.withX v).sp = s.sp := rfl
@[simp] theorem State.withX_p (s : State) (v : Byte) : (s.withX v).p = s.p := rfl
@[simp] theorem State.withX_cycles (s : State) (v : Byte) : (s.withX v).cycles = s.cycles := rfl
@[simp] theorem State.withX_runState (s : State) (v : Byte) : (s.withX v).runState = s.runState := rfl
@[simp] theorem State.withX_proceed (s : State) (v : Byte) : (s.withX v).proceed = s.proceed := rfl
@[simp] theorem State.withX_irqLine (s : State) (v : Byte) : (s.withX v).irqLine = s.irqLine := rfl
@[simp] theorem State.withX_nmiPending (s : State) (v : Byte) : (s.withX v).nmiPending = s.nmiPending := rfl
@[simp] theorem State.withX_mem (s : State) (v : Byte) : (s.withX v).mem = s.mem := rfl
@[simp] theorem State.withX_lock (s : State) (v : Byte) : (s.withX v).lock = s.lock := rfl
@[simp] theorem State.withX_trace (s : State) (v : Byte) : (s.withX v).trace = s.trace := rfl

/-! ### withY -/

@[simp] theorem State.withY_cfg (s : State) (v : Byte) : (s.withY v).cfg = s.cfg := rfl
@[simp] theorem State.withY_pc (s : State) (v : Byte) : (s.withY v).pc = s.pc := rfl
@[simp] theorem State.withY_a (s : State) (v : Byte) : (s.withY v).a = s.a := rfl
@[simp] theorem State.withY_x (s : State) (v : Byte) : (s.withY v).x = s.x := rfl
@[simp] theorem State.withY_y (s : State) (v : Byte) : (s.withY v).y = v := rfl
@[simp] theorem State.withY_sp (s : State) (v : Byte) : (s.withY v).sp = s.sp := rfl
@[simp] theorem State.withY_p (s : State) (v : Byte) : (s.withY v).p = s.p := rfl
@[simp] theorem State.withY_cycles (s : State) (v : Byte) : (s.withY v).cycles = s.cycles := rfl
@[simp] theorem State.withY_runState (s : State) (v : Byte) : (s.withY v).runState = s.runState := rfl
@[simp] theorem State.withY_proceed (s : State) (v : Byte) : (s.withY v).proceed = s.proceed := rfl
@[simp] theorem State.withY_irqLine (s : State) (v : Byte) : (s.withY v).irqLine = s.irqLine := rfl
@[simp] theorem State.withY_nmiPending (s : State) (v : Byte) : (s.withY v).nmiPending = s.nmiPending := rfl
@[simp] theorem State.withY_mem (s : State) (v : Byte) : (s.withY v).mem = s.mem := rfl
@[simp] theorem State.withY_lock (s : State) (v : Byte) : (s.withY v).lock = s.lock := rfl
@[simp] theorem State.withY_trace (s : State) (v : Byte) : (s.withY v).trace = s.trace := rfl

/-! ### withSp -/

@[simp] theorem State.withSp_cfg (s : State) (v : Byte) : (s.withSp v).cfg = s.cfg := rfl
@[simp] theorem State.withSp_pc (s : State) (v : Byte) : (s.withSp v).pc = s.pc := rfl
@[simp] theorem State.withSp_a (s : State) (v : Byte) : (s.withSp v).a = s.a := rfl
@[simp] theorem State.withSp_x (s : State) (v : Byte) : (s.withSp v).x = s.x := rfl
@[simp] theorem State.withSp_y (s : State) (v : Byte) : (s.withSp v).y = s.y := rfl
@[simp] theorem State.withSp_sp (s : State) (v : Byte) : (s.withSp v).sp = v := rfl
@[simp] theorem State.withSp_p (s : State) (v : Byte) : (s.withSp v).p = s.p := rfl
@[simp] theorem State.withSp_cycles (s : State) (v : Byte) : (s.withSp v).cycles = s.cycles := rfl
@[simp] theorem State.withSp_runState (s : State) (v : Byte) : (s.withSp v).runState = s.runState := rfl
@[simp] theorem State.withSp_proceed (s : State) (v : Byte) : (s.withSp v).proceed = s.proceed := rfl
@[simp] theorem State.withSp_irqLine (s : State) (v : Byte) : (s.withSp v).irqLine = s.irqLine := rfl
@[simp] theorem State.withSp_nmiPending (s : State) (v : Byte) : (s.withSp v).nmiPending = s.nmiPending := rfl
@[simp] theorem State.withSp_mem (s : State) (v : Byte) : (s.withSp v).mem = s.mem := rfl
@[simp] theorem State.withSp_lock (s : State) (v : Byte) : (s.withSp v).lock = s.lock := rfl
@[simp] theorem State.withSp_trace (s : State) (v : Byte) : (s.withSp v).trace = s.trace := rfl

/-! ### withP -/

@[simp] theorem State.withP_cfg (s : State) (q : Status) : (s.withP q).cfg = s.cfg := rfl
@[simp] theorem State.withP_pc (s : State) (q : Status) : (s.withP q).pc = s.pc := rfl
@[simp] theorem State.withP_a (s : State) (q : Status) : (s.withP q).a = s.a := rfl
@[simp] theorem State.withP_x (s : State) (q : Status) : (s.withP q).x = s.x := rfl
@[simp] theorem State.withP_y (s : State) (q : Status) : (s.withP q).y = s.y := rfl
@[simp] theorem State.withP_sp (s : State) (q : Status) : (s.withP q).sp = s.sp := rfl
@[simp] theorem State.withP_p (s : State) (q : Status) : (s.withP q).p = q := rfl
@[simp] theorem State.withP_cycles (s : State) (q : Status) : (s.withP q).cycles = s.cycles := rfl
@[simp] theorem State.withP_runState (s : State) (q : Status) : (s.withP q).runState = s.runState := rfl
@[simp] theorem State.withP_proceed (s : State) (q : Status) : (s.withP q).proceed = s.proceed := rfl
@[simp] theorem State.withP_irqLine (s : State) (q : Status) : (s.withP q).irqLine = s.irqLine := rfl
@[simp] theorem State.withP_nmiPending (s : State) (q : Status) : (s.withP q).nmiPending = s.nmiPending := rfl
@[simp] theorem State.withP_mem (s : State) (q : Status) : (s.withP q).mem = s.mem := rfl
@[simp] theorem State.withP_lock (s : State) (q : Status) : (s.withP q).lock = s.lock := rfl
@[simp] theorem State.withP_trace (s : State) (q : Status) : (s.withP q).trace = s.trace := rfl

/-! ### withPc -/

@[simp] theorem State.withPc_cfg (s : State) (w : Word) : (s.withPc w).cfg = s.cfg := rfl
@[simp] theorem State.withPc_pc (s : State) (w : Word) : (s.withPc w).pc = w := rfl
@[simp] theorem State.withPc_a (s : State) (w : Word) : (s.withPc w).a = s.a := rfl
@[simp] theorem State.withPc_x (s : State) (w : Word) : (s.withPc w).x = s.x := rfl
@[simp] theorem State.withPc_y (s : State) (w : Word) : (s.withPc w).y = s.y := rfl
@[simp] theorem State.withPc_sp (s : State) (w : Word) : (s.withPc w).sp = s.sp := rfl
@[simp] theorem State.withPc_p (s : State) (w : Word) : (s.withPc w).p = s.p := rfl
@[simp] theorem State.withPc_cycles (s : State) (w : Word) : (s.withPc w).cycles = s.cycles := rfl
@[simp] theorem State.withPc_runState (s : State) (w : Word) : (s.withPc w).runState = s.runState := rfl
@[simp] theorem State.withPc_proceed (s : State) (w : Word) : (s.withPc w).proceed = s.proceed := rfl
@[simp] theorem State.withPc_irqLine (s : State) (w : Word) : (s.withPc w).irqLine = s.irqLine := rfl
@[simp] theorem State.withPc_nmiPending (s : State) (w : Word) : (s.withPc w).nmiPending = s.nmiPending := rfl
@[simp] theorem State.withPc_mem (s : State) (w : Word) : (s.withPc w).mem = s.mem := rfl
@[simp] theorem State.withPc_lock (s : State) (w : Word) : (s.withPc w).lock = s.lock := rfl
@[simp] theorem State.withPc_trace (s : State) (w : Word) : (s.withPc w).trace = s.trace := rfl

/-! ### withMem -/

@[simp] theorem State.withMem_cfg (s : State) (m : Memory) : (s.withMem m).cfg = s.cfg := rfl
@[simp] theorem State.withMem_pc (s : State) (m : Memory) : (s.withMem m).pc = s.pc := rfl
@[simp] theorem State.withMem_a (s : State) (m : Memory) : (s.withMem m).a = s.a := rfl
@[simp] theorem State.withMem_x (s : State) (m : Memory) : (s.withMem m).x = s.x := rfl
@[simp] theorem State.withMem_y (s : State) (m : Memory) : (s.withMem m).y = s.y := rfl
@[simp] theorem State.withMem_sp (s : State) (m : Memory) : (s.withMem m).sp = s.sp := rfl
@[simp] theorem State.withMem_p (s : State) (m : Memory) : (s.withMem m).p = s.p := rfl
@[simp] theorem State.withMem_cycles (s : State) (m : Memory) : (s.withMem m).cycles = s.cycles := rfl
@[simp] theorem State.withMem_runState (s : State) (m : Memory) : (s.withMem m).runState = s.runState := rfl
@[simp] theorem State.withMem_proceed (s : State) (m : Memory) : (s.withMem m).proceed = s.proceed := rfl
@[simp] theorem State.withMem_irqLine (s : State) (m : Memory) : (s.withMem m).irqLine = s.irqLine := rfl
@[simp] theorem State.withMem_nmiPending (s : State) (m : Memory) : (s.withMem m).nmiPending = s.nmiPending := rfl
@[simp] theorem State.withMem_mem (s : State) (m : Memory) : (s.withMem m).mem = m := rfl
@[simp] theorem State.withMem_lock (s : State) (m : Memory) : (s.withMem m).lock = s.lock := rfl
@[simp] theorem State.withMem_trace (s : State) (m : Memory) : (s.withMem m).trace = s.trace := rfl

/-! ### withLock -/

@[simp] theorem State.withLock_cfg (s : State) (l : LockMask) : (s.withLock l).cfg = s.cfg := rfl
@[simp] theorem State.withLock_pc (s : State) (l : LockMask) : (s.withLock l).pc = s.pc := rfl
@[simp] theorem State.withLock_a (s : State) (l : LockMask) : (s.withLock l).a = s.a := rfl
@[simp] theorem State.withLock_x (s : State) (l : LockMask) : (s.withLock l).x = s.x := rfl
@[simp] theorem State.withLock_y (s : State) (l : LockMask) : (s.withLock l).y = s.y := rfl
@[simp] theorem State.withLock_sp (s : State) (l : LockMask) : (s.withLock l).sp = s.sp := rfl
@[simp] theorem State.withLock_p (s : State) (l : LockMask) : (s.withLock l).p = s.p := rfl
@[simp] theorem State.withLock_cycles (s : State) (l : LockMask) : (s.withLock l).cycles = s.cycles := rfl
@[simp] theorem State.withLock_runState (s : State) (l : LockMask) : (s.withLock l).runState = s.runState := rfl
@[simp] theorem State.withLock_proceed (s : State) (l : LockMask) : (s.withLock l).proceed = s.proceed := rfl
@[simp] theorem State.withLock_irqLine (s : State) (l : LockMask) : (s.withLock l).irqLine = s.irqLine := rfl
@[simp] theorem State.withLock_nmiPending (s : State) (l : LockMask) : (s.withLock l).nmiPending = s.nmiPending := rfl
@[simp] theorem State.withLock_mem (s : State) (l : LockMask) : (s.withLock l).mem = s.mem := rfl
@[simp] theorem State.withLock_lock (s : State) (l : LockMask) : (s.withLock l).lock = l := rfl
@[simp] theorem State.withLock_trace (s : State) (l : LockMask) : (s.withLock l).trace = s.trace := rfl

/-! ### withNmiPending -/

@[simp] theorem State.withNmiPending_cfg (s : State) (b : Bool) : (s.withNmiPending b).cfg = s.cfg := rfl
@[simp] theorem State.withNmiPending_pc (s : State) (b : Bool) : (s.withNmiPending b).pc = s.pc := rfl
@[simp] theorem State.withNmiPending_a (s : State) (b : Bool) : (s.withNmiPending b).a = s.a := rfl
@[simp] theorem State.withNmiPending_x (s : State) (b : Bool) : (s.withNmiPending b).x = s.x := rfl
@[simp] theorem State.withNmiPending_y (s : State) (b : Bool) : (s.withNmiPending b).y = s.y := rfl
@[simp] theorem State.withNmiPending_sp (s : State) (b : Bool) : (s.withNmiPending b).sp = s.sp := rfl
@[simp] theorem State.withNmiPending_p (s : State) (b : Bool) : (s.withNmiPending b).p = s.p := rfl
@[simp] theorem State.withNmiPending_cycles (s : State) (b : Bool) : (s.withNmiPending b).cycles = s.cycles := rfl
@[simp] theorem State.withNmiPending_runState (s : State) (b : Bool) : (s.withNmiPending b).runState = s.runState := rfl
@[simp] theorem State.withNmiPending_proceed (s : State) (b : Bool) : (s.withNmiPending b).proceed = s.proceed := rfl
@[simp] theorem State.withNmiPending_irqLine (s : State) (b : Bool) : (s.withNmiPending b).irqLine = s.irqLine := rfl
@[simp] theorem State.withNmiPending_nmiPending (s : State) (b : Bool) : (s.withNmiPending b).nmiPending = b := rfl
@[simp] theorem State.withNmiPending_mem (s : State) (b : Bool) : (s.withNmiPending b).mem = s.mem := rfl
@[simp] theorem State.withNmiPending_lock (s : State) (b : Bool) : (s.withNmiPending b).lock = s.lock := rfl
@[simp] theorem State.withNmiPending_trace (s : State) (b : Bool) : (s.withNmiPending b).trace = s.trace := rfl

/-! ### withIrqLine -/

@[simp] theorem State.withIrqLine_cfg (s : State) (b : Bool) : (s.withIrqLine b).cfg = s.cfg := rfl
@[simp] theorem State.withIrqLine_pc (s : State) (b : Bool) : (s.withIrqLine b).pc = s.pc := rfl
@[simp] theorem State.withIrqLine_a (s : State) (b : Bool) : (s.withIrqLine b).a = s.a := rfl
@[simp] theorem State.withIrqLine_x (s : State) (b : Bool) : (s.withIrqLine b).x = s.x := rfl
@[simp] theorem State.withIrqLine_y (s : State) (b : Bool) : (s.withIrqLine b).y = s.y := rfl
@[simp] theorem State.withIrqLine_sp (s : State) (b : Bool) : (s.withIrqLine b).sp = s.sp := rfl
@[simp] theorem State.withIrqLine_p (s : State) (b : Bool) : (s.withIrqLine b).p = s.p := rfl
@[simp] theorem State.withIrqLine_cycles (s : State) (b : Bool) : (s.withIrqLine b).cycles = s.cycles := rfl
@[simp] theorem State.withIrqLine_runState (s : State) (b : Bool) : (s.withIrqLine b).runState = s.runState := rfl
@[simp] theorem State.withIrqLine_proceed (s : State) (b : Bool) : (s.withIrqLine b).proceed = s.proceed := rfl
@[simp] theorem State.withIrqLine_irqLine (s : State) (b : Bool) : (s.withIrqLine b).irqLine = b := rfl
@[simp] theorem State.withIrqLine_nmiPending (s : State) (b : Bool) : (s.withIrqLine b).nmiPending = s.nmiPending := rfl
@[simp] theorem State.withIrqLine_mem (s : State) (b : Bool) : (s.withIrqLine b).mem = s.mem := rfl
@[simp] theorem State.withIrqLine_lock (s : State) (b : Bool) : (s.withIrqLine b).lock = s.lock := rfl
@[simp] theorem State.withIrqLine_trace (s : State) (b : Bool) : (s.withIrqLine b).trace = s.trace := rfl

/-! ### withProceed -/

@[simp] theorem State.withProceed_cfg (s : State) (b : Bool) : (s.withProceed b).cfg = s.cfg := rfl
@[simp] theorem State.withProceed_pc (s : State) (b : Bool) : (s.withProceed b).pc = s.pc := rfl
@[simp] theorem State.withProceed_a (s : State) (b : Bool) : (s.withProceed b).a = s.a := rfl
@[simp] theorem State.withProceed_x (s : State) (b : Bool) : (s.withProceed b).x = s.x := rfl
@[simp] theorem State.withProceed_y (s : State) (b : Bool) : (s.withProceed b).y = s.y := rfl
@[simp] theorem State.withProceed_sp (s : State) (b : Bool) : (s.withProceed b).sp = s.sp := rfl
@[simp] theorem State.withProceed_p (s : State) (b : Bool) : (s.withProceed b).p = s.p := rfl
@[simp] theorem State.withProceed_cycles (s : State) (b : Bool) : (s.withProceed b).cycles = s.cycles := rfl
@[simp] theorem State.withProceed_runState (s : State) (b : Bool) : (s.withProceed b).runState = s.runState := rfl
@[simp] theorem State.withProceed_proceed (s : State) (b : Bool) : (s.withProceed b).proceed = b := rfl
@[simp] theorem State.withProceed_irqLine (s : State) (b : Bool) : (s.withProceed b).irqLine = s.irqLine := rfl
@[simp] theorem State.withProceed_nmiPending (s : State) (b : Bool) : (s.withProceed b).nmiPending = s.nmiPending := rfl
@[simp] theorem State.withProceed_mem (s : State) (b : Bool) : (s.withProceed b).mem = s.mem := rfl
@[simp] theorem State.withProceed_lock (s : State) (b : Bool) : (s.withProceed b).lock = s.lock := rfl
@[simp] theorem State.withProceed_trace (s : State) (b : Bool) : (s.withProceed b).trace = s.trace := rfl

/-! ### withRunState -/

@[simp] theorem State.withRunState_cfg (s : State) (r : RunState) : (s.withRunState r).cfg = s.cfg := rfl
@[simp] theorem State.withRunState_pc (s : State) (r : RunState) : (s.withRunState r).pc = s.pc := rfl
@[simp] theorem State.withRunState_a (s : State) (r : RunState) : (s.withRunState r).a = s.a := rfl
@[simp] theorem State.withRunState_x (s : State) (r : RunState) : (s.withRunState r).x = s.x := rfl
@[simp] theorem State.withRunState_y (s : State) (r : RunState) : (s.withRunState r).y = s.y := rfl
@[simp] theorem State.withRunState_sp (s : State) (r : RunState) : (s.withRunState r).sp = s.sp := rfl
@[simp] theorem State.withRunState_p (s : State) (r : RunState) : (s.withRunState r).p = s.p := rfl
@[simp] theorem State.withRunState_cycles (s : State) (r : RunState) : (s.withRunState r).cycles = s.cycles := rfl
@[simp] theorem State.withRunState_runState (s : State) (r : RunState) : (s.withRunState r).runState = r := rfl
@[simp] theorem State.withRunState_proceed (s : State) (r : RunState) : (s.withRunState r).proceed = s.proceed := rfl
@[simp] theorem State.withRunState_irqLine (s : State) (r : RunState) : (s.withRunState r).irqLine = s.irqLine := rfl
@[simp] theorem State.withRunState_nmiPending (s : State) (r : RunState) : (s.withRunState r).nmiPending = s.nmiPending := rfl
@[simp] theorem State.withRunState_mem (s : State) (r : RunState) : (s.withRunState r).mem = s.mem := rfl
@[simp] theorem State.withRunState_lock (s : State) (r : RunState) : (s.withRunState r).lock = s.lock := rfl
@[simp] theorem State.withRunState_trace (s : State) (r : RunState) : (s.withRunState r).trace = s.trace := rfl

/-! ### withCycles -/

@[simp] theorem State.withCycles_cfg (s : State) (n : BitVec 64) : (s.withCycles n).cfg = s.cfg := rfl
@[simp] theorem State.withCycles_pc (s : State) (n : BitVec 64) : (s.withCycles n).pc = s.pc := rfl
@[simp] theorem State.withCycles_a (s : State) (n : BitVec 64) : (s.withCycles n).a = s.a := rfl
@[simp] theorem State.withCycles_x (s : State) (n : BitVec 64) : (s.withCycles n).x = s.x := rfl
@[simp] theorem State.withCycles_y (s : State) (n : BitVec 64) : (s.withCycles n).y = s.y := rfl
@[simp] theorem State.withCycles_sp (s : State) (n : BitVec 64) : (s.withCycles n).sp = s.sp := rfl
@[simp] theorem State.withCycles_p (s : State) (n : BitVec 64) : (s.withCycles n).p = s.p := rfl
@[simp] theorem State.withCycles_cycles (s : State) (n : BitVec 64) : (s.withCycles n).cycles = n := rfl
@[simp] theorem State.withCycles_runState (s : State) (n : BitVec 64) : (s.withCycles n).runState = s.runState := rfl
@[simp] theorem State.withCycles_proceed (s : State) (n : BitVec 64) : (s.withCycles n).proceed = s.proceed := rfl
@[simp] theorem State.withCycles_irqLine (s : State) (n : BitVec 64) : (s.withCycles n).irqLine = s.irqLine := rfl
@[simp] theorem State.withCycles_nmiPending (s : State) (n : BitVec 64) : (s.withCycles n).nmiPending = s.nmiPending := rfl
@[simp] theorem State.withCycles_mem (s : State) (n : BitVec 64) : (s.withCycles n).mem = s.mem := rfl
@[simp] theorem State.withCycles_lock (s : State) (n : BitVec 64) : (s.withCycles n).lock = s.lock := rfl
@[simp] theorem State.withCycles_trace (s : State) (n : BitVec 64) : (s.withCycles n).trace = s.trace := rfl

/-! ### emit -/

@[simp] theorem State.emit_cfg (s : State) (e : Event) : (s.emit e).cfg = s.cfg := rfl
@[simp] theorem State.emit_pc (s : State) (e : Event) : (s.emit e).pc = s.pc := rfl
@[simp] theorem State.emit_a (s : State) (e : Event) : (s.emit e).a = s.a := rfl
@[simp] theorem State.emit_x (s : State) (e : Event) : (s.emit e).x = s.x := rfl
@[simp] theorem State.emit_y (s : State) (e : Event) : (s.emit e).y = s.y := rfl
@[simp] theorem State.emit_sp (s : State) (e : Event) : (s.emit e).sp = s.sp := rfl
@[simp] theorem State.emit_p (s : State) (e : Event) : (s.emit e).p = s.p := rfl
@[simp] theorem State.emit_cycles (s : State) (e : Event) : (s.emit e).cycles = s.cycles := rfl
@[simp] theorem State.emit_runState (s : State) (e : Event) : (s.emit e).runState = s.runState := rfl
@[simp] theorem State.emit_proceed (s : State) (e : Event) : (s.emit e).proceed = s.proceed := rfl
@[simp] theorem State.emit_irqLine (s : State) (e : Event) : (s.emit e).irqLine = s.irqLine := rfl
@[simp] theorem State.emit_nmiPending (s : State) (e : Event) : (s.emit e).nmiPending = s.nmiPending := rfl
@[simp] theorem State.emit_mem (s : State) (e : Event) : (s.emit e).mem = s.mem := rfl
@[simp] theorem State.emit_lock (s : State) (e : Event) : (s.emit e).lock = s.lock := rfl
@[simp] theorem State.emit_trace (s : State) (e : Event) : (s.emit e).trace = e :: s.trace := rfl

/-! ### withNZ and tick -/

@[simp] theorem State.withNZ_cfg (s : State) (v : Byte) : (s.withNZ v).cfg = s.cfg := rfl
@[simp] theorem State.withNZ_pc (s : State) (v : Byte) : (s.withNZ v).pc = s.pc := rfl
@[simp] theorem State.withNZ_a (s : State) (v : Byte) : (s.withNZ v).a = s.a := rfl
@[simp] theorem State.withNZ_x (s : State) (v : Byte) : (s.withNZ v).x = s.x := rfl
@[simp] theorem State.withNZ_y (s : State) (v : Byte) : (s.withNZ v).y = s.y := rfl
@[simp] theorem State.withNZ_sp (s : State) (v : Byte) : (s.withNZ v).sp = s.sp := rfl
@[simp] theorem State.withNZ_p (s : State) (v : Byte) : (s.withNZ v).p = s.p.setNZ v := rfl
@[simp] theorem State.withNZ_cycles (s : State) (v : Byte) : (s.withNZ v).cycles = s.cycles := rfl
@[simp] theorem State.withNZ_runState (s : State) (v : Byte) : (s.withNZ v).runState = s.runState := rfl
@[simp] theorem State.withNZ_proceed (s : State) (v : Byte) : (s.withNZ v).proceed = s.proceed := rfl
@[simp] theorem State.withNZ_irqLine (s : State) (v : Byte) : (s.withNZ v).irqLine = s.irqLine := rfl
@[simp] theorem State.withNZ_nmiPending (s : State) (v : Byte) : (s.withNZ v).nmiPending = s.nmiPending := rfl
@[simp] theorem State.withNZ_mem (s : State) (v : Byte) : (s.withNZ v).mem = s.mem := rfl
@[simp] theorem State.withNZ_lock (s : State) (v : Byte) : (s.withNZ v).lock = s.lock := rfl
@[simp] theorem State.withNZ_trace (s : State) (v : Byte) : (s.withNZ v).trace = s.trace := rfl

@[simp] theorem State.tick_cfg (s : State) (n : Nat) : (s.tick n).cfg = s.cfg := rfl
@[simp] theorem State.tick_pc (s : State) (n : Nat) : (s.tick n).pc = s.pc := rfl
@[simp] theorem State.tick_a (s : State) (n : Nat) : (s.tick n).a = s.a := rfl
@[simp] theorem State.tick_x (s : State) (n : Nat) : (s.tick n).x = s.x := rfl
@[simp] theorem State.tick_y (s : State) (n : Nat) : (s.tick n).y = s.y := rfl
@[simp] theorem State.tick_sp (s : State) (n : Nat) : (s.tick n).sp = s.sp := rfl
@[simp] theorem State.tick_p (s : State) (n : Nat) : (s.tick n).p = s.p := rfl
@[simp] theorem State.tick_cycles (s : State) (n : Nat) : (s.tick n).cycles = s.cycles + BitVec.ofNat 64 n := rfl
@[simp] theorem State.tick_runState (s : State) (n : Nat) : (s.tick n).runState = s.runState := rfl
@[simp] theorem State.tick_proceed (s : State) (n : Nat) : (s.tick n).proceed = s.proceed := rfl
@[simp] theorem State.tick_irqLine (s : State) (n : Nat) : (s.tick n).irqLine = s.irqLine := rfl
@[simp] theorem State.tick_nmiPending (s : State) (n : Nat) : (s.tick n).nmiPending = s.nmiPending := rfl
@[simp] theorem State.tick_mem (s : State) (n : Nat) : (s.tick n).mem = s.mem := rfl
@[simp] theorem State.tick_lock (s : State) (n : Nat) : (s.tick n).lock = s.lock := rfl
@[simp] theorem State.tick_trace (s : State) (n : Nat) : (s.tick n).trace = s.trace := rfl

/-! ### The status register -/

@[simp] theorem Status.setNZ_n (p : Status) (v : Byte) : (p.setNZ v).n = (v.msb) := rfl
@[simp] theorem Status.setNZ_v (p : Status) (v : Byte) : (p.setNZ v).v = (p.v) := rfl
@[simp] theorem Status.setNZ_b (p : Status) (v : Byte) : (p.setNZ v).b = (p.b) := rfl
@[simp] theorem Status.setNZ_d (p : Status) (v : Byte) : (p.setNZ v).d = (p.d) := rfl
@[simp] theorem Status.setNZ_i (p : Status) (v : Byte) : (p.setNZ v).i = (p.i) := rfl
@[simp] theorem Status.setNZ_z (p : Status) (v : Byte) : (p.setNZ v).z = (v == 0) := rfl
@[simp] theorem Status.setNZ_c (p : Status) (v : Byte) : (p.setNZ v).c = (p.c) := rfl

/-! ### peek and isLocked read memory and the lock mask alone -/

@[simp] theorem State.withA_peek (s : State) (v : Byte) (a : Word) : (s.withA v).peek a = s.peek a := rfl
@[simp] theorem State.withX_peek (s : State) (v : Byte) (a : Word) : (s.withX v).peek a = s.peek a := rfl
@[simp] theorem State.withY_peek (s : State) (v : Byte) (a : Word) : (s.withY v).peek a = s.peek a := rfl
@[simp] theorem State.withSp_peek (s : State) (v : Byte) (a : Word) : (s.withSp v).peek a = s.peek a := rfl
@[simp] theorem State.withP_peek (s : State) (q : Status) (a : Word) : (s.withP q).peek a = s.peek a := rfl
@[simp] theorem State.withPc_peek (s : State) (w : Word) (a : Word) : (s.withPc w).peek a = s.peek a := rfl
@[simp] theorem State.withMem_peek (s : State) (m : Memory) (a : Word) : (s.withMem m).peek a = Memory.read m a.toNat := rfl
@[simp] theorem State.withLock_peek (s : State) (l : LockMask) (a : Word) : (s.withLock l).peek a = s.peek a := rfl
@[simp] theorem State.withNmiPending_peek (s : State) (b : Bool) (a : Word) : (s.withNmiPending b).peek a = s.peek a := rfl
@[simp] theorem State.withIrqLine_peek (s : State) (b : Bool) (a : Word) : (s.withIrqLine b).peek a = s.peek a := rfl
@[simp] theorem State.withProceed_peek (s : State) (b : Bool) (a : Word) : (s.withProceed b).peek a = s.peek a := rfl
@[simp] theorem State.withRunState_peek (s : State) (r : RunState) (a : Word) : (s.withRunState r).peek a = s.peek a := rfl
@[simp] theorem State.withCycles_peek (s : State) (n : BitVec 64) (a : Word) : (s.withCycles n).peek a = s.peek a := rfl
@[simp] theorem State.withA_isLocked (s : State) (v : Byte) (a : Word) : (s.withA v).isLocked a = s.isLocked a := rfl
@[simp] theorem State.withX_isLocked (s : State) (v : Byte) (a : Word) : (s.withX v).isLocked a = s.isLocked a := rfl
@[simp] theorem State.withY_isLocked (s : State) (v : Byte) (a : Word) : (s.withY v).isLocked a = s.isLocked a := rfl
@[simp] theorem State.withSp_isLocked (s : State) (v : Byte) (a : Word) : (s.withSp v).isLocked a = s.isLocked a := rfl
@[simp] theorem State.withP_isLocked (s : State) (q : Status) (a : Word) : (s.withP q).isLocked a = s.isLocked a := rfl
@[simp] theorem State.withPc_isLocked (s : State) (w : Word) (a : Word) : (s.withPc w).isLocked a = s.isLocked a := rfl
@[simp] theorem State.withMem_isLocked (s : State) (m : Memory) (a : Word) : (s.withMem m).isLocked a = s.isLocked a := rfl
@[simp] theorem State.withLock_isLocked (s : State) (l : LockMask) (a : Word) : (s.withLock l).isLocked a = LockMask.locked l a.toNat := rfl
@[simp] theorem State.withNmiPending_isLocked (s : State) (b : Bool) (a : Word) : (s.withNmiPending b).isLocked a = s.isLocked a := rfl
@[simp] theorem State.withIrqLine_isLocked (s : State) (b : Bool) (a : Word) : (s.withIrqLine b).isLocked a = s.isLocked a := rfl
@[simp] theorem State.withProceed_isLocked (s : State) (b : Bool) (a : Word) : (s.withProceed b).isLocked a = s.isLocked a := rfl
@[simp] theorem State.withRunState_isLocked (s : State) (r : RunState) (a : Word) : (s.withRunState r).isLocked a = s.isLocked a := rfl
@[simp] theorem State.withCycles_isLocked (s : State) (n : BitVec 64) (a : Word) : (s.withCycles n).isLocked a = s.isLocked a := rfl
@[simp] theorem State.emit_peek (s : State) (e : Event) (a : Word) : (s.emit e).peek a = s.peek a := rfl
@[simp] theorem State.emit_isLocked (s : State) (e : Event) (a : Word) : (s.emit e).isLocked a = s.isLocked a := rfl
@[simp] theorem State.withNZ_peek (s : State) (v : Byte) (a : Word) : (s.withNZ v).peek a = s.peek a := rfl
@[simp] theorem State.withNZ_isLocked (s : State) (v : Byte) (a : Word) : (s.withNZ v).isLocked a = s.isLocked a := rfl
@[simp] theorem State.tick_peek (s : State) (n : Nat) (a : Word) : (s.tick n).peek a = s.peek a := rfl
@[simp] theorem State.tick_isLocked (s : State) (n : Nat) (a : Word) : (s.tick n).isLocked a = s.isLocked a := rfl

end Sys2Proof.Machine
end

