-- ==== Sys2Proof/Laws/Ops.lean ====
section
/-! SUPPORT. For each shared operation, what it does to every field and to every byte of memory, so that
a proof cites these lemmas and does not unfold the operation. -/

namespace Sys2Proof.Machine

/-! ### Reading: only the event trace changes -/

@[simp] theorem State.noteRead_cfg (s : State) (a : Word) : (s.noteRead a).cfg = s.cfg := rfl
@[simp] theorem State.noteRead_pc (s : State) (a : Word) : (s.noteRead a).pc = s.pc := rfl
@[simp] theorem State.noteRead_a (s : State) (a : Word) : (s.noteRead a).a = s.a := rfl
@[simp] theorem State.noteRead_x (s : State) (a : Word) : (s.noteRead a).x = s.x := rfl
@[simp] theorem State.noteRead_y (s : State) (a : Word) : (s.noteRead a).y = s.y := rfl
@[simp] theorem State.noteRead_sp (s : State) (a : Word) : (s.noteRead a).sp = s.sp := rfl
@[simp] theorem State.noteRead_p (s : State) (a : Word) : (s.noteRead a).p = s.p := rfl
@[simp] theorem State.noteRead_cycles (s : State) (a : Word) : (s.noteRead a).cycles = s.cycles := rfl
@[simp] theorem State.noteRead_runState (s : State) (a : Word) : (s.noteRead a).runState = s.runState := rfl
@[simp] theorem State.noteRead_proceed (s : State) (a : Word) : (s.noteRead a).proceed = s.proceed := rfl
@[simp] theorem State.noteRead_irqLine (s : State) (a : Word) : (s.noteRead a).irqLine = s.irqLine := rfl
@[simp] theorem State.noteRead_nmiPending (s : State) (a : Word) : (s.noteRead a).nmiPending = s.nmiPending := rfl
@[simp] theorem State.noteRead_mem (s : State) (a : Word) : (s.noteRead a).mem = s.mem := rfl
@[simp] theorem State.noteRead_lock (s : State) (a : Word) : (s.noteRead a).lock = s.lock := rfl
@[simp] theorem State.noteRead_trace (s : State) (a : Word) : (s.noteRead a).trace = .byteRead a (s.peek a) :: s.trace := rfl
@[simp] theorem State.noteRead_peek (s : State) (a : Word) (b : Word) : (s.noteRead a).peek b = s.peek b := rfl
@[simp] theorem State.noteRead_isLocked (s : State) (a : Word) (b : Word) : (s.noteRead a).isLocked b = s.isLocked b := rfl

@[simp] theorem State.noteReadWord_cfg (s : State) (a : Word) : (s.noteReadWord a).cfg = s.cfg := rfl
@[simp] theorem State.noteReadWord_pc (s : State) (a : Word) : (s.noteReadWord a).pc = s.pc := rfl
@[simp] theorem State.noteReadWord_a (s : State) (a : Word) : (s.noteReadWord a).a = s.a := rfl
@[simp] theorem State.noteReadWord_x (s : State) (a : Word) : (s.noteReadWord a).x = s.x := rfl
@[simp] theorem State.noteReadWord_y (s : State) (a : Word) : (s.noteReadWord a).y = s.y := rfl
@[simp] theorem State.noteReadWord_sp (s : State) (a : Word) : (s.noteReadWord a).sp = s.sp := rfl
@[simp] theorem State.noteReadWord_p (s : State) (a : Word) : (s.noteReadWord a).p = s.p := rfl
@[simp] theorem State.noteReadWord_cycles (s : State) (a : Word) : (s.noteReadWord a).cycles = s.cycles := rfl
@[simp] theorem State.noteReadWord_runState (s : State) (a : Word) : (s.noteReadWord a).runState = s.runState := rfl
@[simp] theorem State.noteReadWord_proceed (s : State) (a : Word) : (s.noteReadWord a).proceed = s.proceed := rfl
@[simp] theorem State.noteReadWord_irqLine (s : State) (a : Word) : (s.noteReadWord a).irqLine = s.irqLine := rfl
@[simp] theorem State.noteReadWord_nmiPending (s : State) (a : Word) : (s.noteReadWord a).nmiPending = s.nmiPending := rfl
@[simp] theorem State.noteReadWord_mem (s : State) (a : Word) : (s.noteReadWord a).mem = s.mem := rfl
@[simp] theorem State.noteReadWord_lock (s : State) (a : Word) : (s.noteReadWord a).lock = s.lock := rfl
@[simp] theorem State.noteReadWord_trace (s : State) (a : Word) : (s.noteReadWord a).trace = .byteRead (a + 1) (s.peek (a + 1)) :: .byteRead a (s.peek a) :: s.trace := rfl
@[simp] theorem State.noteReadWord_peek (s : State) (a : Word) (b : Word) : (s.noteReadWord a).peek b = s.peek b := rfl
@[simp] theorem State.noteReadWord_isLocked (s : State) (a : Word) (b : Word) : (s.noteReadWord a).isLocked b = s.isLocked b := rfl

@[simp] theorem State.noteReadWordZP_cfg (s : State) (z : Byte) : (s.noteReadWordZP z).cfg = s.cfg := rfl
@[simp] theorem State.noteReadWordZP_pc (s : State) (z : Byte) : (s.noteReadWordZP z).pc = s.pc := rfl
@[simp] theorem State.noteReadWordZP_a (s : State) (z : Byte) : (s.noteReadWordZP z).a = s.a := rfl
@[simp] theorem State.noteReadWordZP_x (s : State) (z : Byte) : (s.noteReadWordZP z).x = s.x := rfl
@[simp] theorem State.noteReadWordZP_y (s : State) (z : Byte) : (s.noteReadWordZP z).y = s.y := rfl
@[simp] theorem State.noteReadWordZP_sp (s : State) (z : Byte) : (s.noteReadWordZP z).sp = s.sp := rfl
@[simp] theorem State.noteReadWordZP_p (s : State) (z : Byte) : (s.noteReadWordZP z).p = s.p := rfl
@[simp] theorem State.noteReadWordZP_cycles (s : State) (z : Byte) : (s.noteReadWordZP z).cycles = s.cycles := rfl
@[simp] theorem State.noteReadWordZP_runState (s : State) (z : Byte) : (s.noteReadWordZP z).runState = s.runState := rfl
@[simp] theorem State.noteReadWordZP_proceed (s : State) (z : Byte) : (s.noteReadWordZP z).proceed = s.proceed := rfl
@[simp] theorem State.noteReadWordZP_irqLine (s : State) (z : Byte) : (s.noteReadWordZP z).irqLine = s.irqLine := rfl
@[simp] theorem State.noteReadWordZP_nmiPending (s : State) (z : Byte) : (s.noteReadWordZP z).nmiPending = s.nmiPending := rfl
@[simp] theorem State.noteReadWordZP_mem (s : State) (z : Byte) : (s.noteReadWordZP z).mem = s.mem := rfl
@[simp] theorem State.noteReadWordZP_lock (s : State) (z : Byte) : (s.noteReadWordZP z).lock = s.lock := rfl
@[simp] theorem State.noteReadWordZP_trace (s : State) (z : Byte) : (s.noteReadWordZP z).trace = 
      .byteRead (zext (z + 1)) (s.peek (zext (z + 1))) :: .byteRead (zext z) (s.peek (zext z)) :: s.trace := rfl
@[simp] theorem State.noteReadWordZP_peek (s : State) (z : Byte) (b : Word) : (s.noteReadWordZP z).peek b = s.peek b := rfl
@[simp] theorem State.noteReadWordZP_isLocked (s : State) (z : Byte) (b : Word) : (s.noteReadWordZP z).isLocked b = s.isLocked b := rfl

@[simp] theorem State.resolve_cfg (s : State) (m : MemOperand) : (s.resolve m).cfg = s.cfg := by cases m <;> rfl
@[simp] theorem State.resolve_pc (s : State) (m : MemOperand) : (s.resolve m).pc = s.pc := by cases m <;> rfl
@[simp] theorem State.resolve_a (s : State) (m : MemOperand) : (s.resolve m).a = s.a := by cases m <;> rfl
@[simp] theorem State.resolve_x (s : State) (m : MemOperand) : (s.resolve m).x = s.x := by cases m <;> rfl
@[simp] theorem State.resolve_y (s : State) (m : MemOperand) : (s.resolve m).y = s.y := by cases m <;> rfl
@[simp] theorem State.resolve_sp (s : State) (m : MemOperand) : (s.resolve m).sp = s.sp := by cases m <;> rfl
@[simp] theorem State.resolve_p (s : State) (m : MemOperand) : (s.resolve m).p = s.p := by cases m <;> rfl
@[simp] theorem State.resolve_cycles (s : State) (m : MemOperand) : (s.resolve m).cycles = s.cycles := by cases m <;> rfl
@[simp] theorem State.resolve_runState (s : State) (m : MemOperand) : (s.resolve m).runState = s.runState := by cases m <;> rfl
@[simp] theorem State.resolve_proceed (s : State) (m : MemOperand) : (s.resolve m).proceed = s.proceed := by cases m <;> rfl
@[simp] theorem State.resolve_irqLine (s : State) (m : MemOperand) : (s.resolve m).irqLine = s.irqLine := by cases m <;> rfl
@[simp] theorem State.resolve_nmiPending (s : State) (m : MemOperand) : (s.resolve m).nmiPending = s.nmiPending := by cases m <;> rfl
@[simp] theorem State.resolve_mem (s : State) (m : MemOperand) : (s.resolve m).mem = s.mem := by cases m <;> rfl
@[simp] theorem State.resolve_lock (s : State) (m : MemOperand) : (s.resolve m).lock = s.lock := by cases m <;> rfl
@[simp] theorem State.resolve_peek (s : State) (m : MemOperand) (b : Word) : (s.resolve m).peek b = s.peek b := by cases m <;> rfl
@[simp] theorem State.resolve_isLocked (s : State) (m : MemOperand) (b : Word) : (s.resolve m).isLocked b = s.isLocked b := by cases m <;> rfl

@[simp] theorem State.noteSource_cfg (s : State) (src : Source) : (s.noteSource src).cfg = s.cfg := by cases src <;> simp [State.noteSource]
@[simp] theorem State.noteSource_pc (s : State) (src : Source) : (s.noteSource src).pc = s.pc := by cases src <;> simp [State.noteSource]
@[simp] theorem State.noteSource_a (s : State) (src : Source) : (s.noteSource src).a = s.a := by cases src <;> simp [State.noteSource]
@[simp] theorem State.noteSource_x (s : State) (src : Source) : (s.noteSource src).x = s.x := by cases src <;> simp [State.noteSource]
@[simp] theorem State.noteSource_y (s : State) (src : Source) : (s.noteSource src).y = s.y := by cases src <;> simp [State.noteSource]
@[simp] theorem State.noteSource_sp (s : State) (src : Source) : (s.noteSource src).sp = s.sp := by cases src <;> simp [State.noteSource]
@[simp] theorem State.noteSource_p (s : State) (src : Source) : (s.noteSource src).p = s.p := by cases src <;> simp [State.noteSource]
@[simp] theorem State.noteSource_cycles (s : State) (src : Source) : (s.noteSource src).cycles = s.cycles := by cases src <;> simp [State.noteSource]
@[simp] theorem State.noteSource_runState (s : State) (src : Source) : (s.noteSource src).runState = s.runState := by cases src <;> simp [State.noteSource]
@[simp] theorem State.noteSource_proceed (s : State) (src : Source) : (s.noteSource src).proceed = s.proceed := by cases src <;> simp [State.noteSource]
@[simp] theorem State.noteSource_irqLine (s : State) (src : Source) : (s.noteSource src).irqLine = s.irqLine := by cases src <;> simp [State.noteSource]
@[simp] theorem State.noteSource_nmiPending (s : State) (src : Source) : (s.noteSource src).nmiPending = s.nmiPending := by cases src <;> simp [State.noteSource]
@[simp] theorem State.noteSource_mem (s : State) (src : Source) : (s.noteSource src).mem = s.mem := by cases src <;> simp [State.noteSource]
@[simp] theorem State.noteSource_lock (s : State) (src : Source) : (s.noteSource src).lock = s.lock := by cases src <;> simp [State.noteSource]
@[simp] theorem State.noteSource_peek (s : State) (src : Source) (b : Word) : (s.noteSource src).peek b = s.peek b := by cases src <;> simp [State.noteSource]
@[simp] theorem State.noteSource_isLocked (s : State) (src : Source) (b : Word) : (s.noteSource src).isLocked b = s.isLocked b := by cases src <;> simp [State.noteSource]

/-! ### Fetching -/

@[simp] theorem State.fetchByte_cfg (s : State) : (s.fetchByte).cfg = s.cfg := rfl
@[simp] theorem State.fetchByte_pc (s : State) : (s.fetchByte).pc = s.pc + 1 := rfl
@[simp] theorem State.fetchByte_a (s : State) : (s.fetchByte).a = s.a := rfl
@[simp] theorem State.fetchByte_x (s : State) : (s.fetchByte).x = s.x := rfl
@[simp] theorem State.fetchByte_y (s : State) : (s.fetchByte).y = s.y := rfl
@[simp] theorem State.fetchByte_sp (s : State) : (s.fetchByte).sp = s.sp := rfl
@[simp] theorem State.fetchByte_p (s : State) : (s.fetchByte).p = s.p := rfl
@[simp] theorem State.fetchByte_cycles (s : State) : (s.fetchByte).cycles = s.cycles := rfl
@[simp] theorem State.fetchByte_runState (s : State) : (s.fetchByte).runState = s.runState := rfl
@[simp] theorem State.fetchByte_proceed (s : State) : (s.fetchByte).proceed = s.proceed := rfl
@[simp] theorem State.fetchByte_irqLine (s : State) : (s.fetchByte).irqLine = s.irqLine := rfl
@[simp] theorem State.fetchByte_nmiPending (s : State) : (s.fetchByte).nmiPending = s.nmiPending := rfl
@[simp] theorem State.fetchByte_mem (s : State) : (s.fetchByte).mem = s.mem := rfl
@[simp] theorem State.fetchByte_lock (s : State) : (s.fetchByte).lock = s.lock := rfl
@[simp] theorem State.fetchByte_trace (s : State) : (s.fetchByte).trace = .byteRead s.pc (s.peek s.pc) :: s.trace := rfl
@[simp] theorem State.fetchByte_peek (s : State) (b : Word) : (s.fetchByte).peek b = s.peek b := rfl
@[simp] theorem State.fetchByte_isLocked (s : State) (b : Word) : (s.fetchByte).isLocked b = s.isLocked b := rfl

@[simp] theorem State.fetchBytes_cfg (n : Nat) (s : State) : (State.fetchBytes n s).cfg = s.cfg := by
  induction n generalizing s with
  | zero => rfl
  | succ n ih => simp [State.fetchBytes, ih]
@[simp] theorem State.fetchBytes_a (n : Nat) (s : State) : (State.fetchBytes n s).a = s.a := by
  induction n generalizing s with
  | zero => rfl
  | succ n ih => simp [State.fetchBytes, ih]
@[simp] theorem State.fetchBytes_x (n : Nat) (s : State) : (State.fetchBytes n s).x = s.x := by
  induction n generalizing s with
  | zero => rfl
  | succ n ih => simp [State.fetchBytes, ih]
@[simp] theorem State.fetchBytes_y (n : Nat) (s : State) : (State.fetchBytes n s).y = s.y := by
  induction n generalizing s with
  | zero => rfl
  | succ n ih => simp [State.fetchBytes, ih]
@[simp] theorem State.fetchBytes_sp (n : Nat) (s : State) : (State.fetchBytes n s).sp = s.sp := by
  induction n generalizing s with
  | zero => rfl
  | succ n ih => simp [State.fetchBytes, ih]
@[simp] theorem State.fetchBytes_p (n : Nat) (s : State) : (State.fetchBytes n s).p = s.p := by
  induction n generalizing s with
  | zero => rfl
  | succ n ih => simp [State.fetchBytes, ih]
@[simp] theorem State.fetchBytes_cycles (n : Nat) (s : State) : (State.fetchBytes n s).cycles = s.cycles := by
  induction n generalizing s with
  | zero => rfl
  | succ n ih => simp [State.fetchBytes, ih]
@[simp] theorem State.fetchBytes_runState (n : Nat) (s : State) : (State.fetchBytes n s).runState = s.runState := by
  induction n generalizing s with
  | zero => rfl
  | succ n ih => simp [State.fetchBytes, ih]
@[simp] theorem State.fetchBytes_proceed (n : Nat) (s : State) : (State.fetchBytes n s).proceed = s.proceed := by
  induction n generalizing s with
  | zero => rfl
  | succ n ih => simp [State.fetchBytes, ih]
@[simp] theorem State.fetchBytes_irqLine (n : Nat) (s : State) : (State.fetchBytes n s).irqLine = s.irqLine := by
  induction n generalizing s with
  | zero => rfl
  | succ n ih => simp [State.fetchBytes, ih]
@[simp] theorem State.fetchBytes_nmiPending (n : Nat) (s : State) : (State.fetchBytes n s).nmiPending = s.nmiPending := by
  induction n generalizing s with
  | zero => rfl
  | succ n ih => simp [State.fetchBytes, ih]
@[simp] theorem State.fetchBytes_mem (n : Nat) (s : State) : (State.fetchBytes n s).mem = s.mem := by
  induction n generalizing s with
  | zero => rfl
  | succ n ih => simp [State.fetchBytes, ih]
@[simp] theorem State.fetchBytes_lock (n : Nat) (s : State) : (State.fetchBytes n s).lock = s.lock := by
  induction n generalizing s with
  | zero => rfl
  | succ n ih => simp [State.fetchBytes, ih]
@[simp] theorem State.fetchBytes_pc (n : Nat) (s : State) :
    (State.fetchBytes n s).pc = s.pc + BitVec.ofNat 16 n := by
  induction n generalizing s with
  | zero => simp [State.fetchBytes]
  | succ n ih =>
    simp only [State.fetchBytes, ih, State.fetchByte_pc]
    apply BitVec.eq_of_toNat_eq
    simp
    omega
@[simp] theorem State.fetchBytes_peek (n : Nat) (s : State) (b : Word) :
    (State.fetchBytes n s).peek b = s.peek b := by simp [State.peek]
@[simp] theorem State.fetchBytes_isLocked (n : Nat) (s : State) (b : Word) :
    (State.fetchBytes n s).isLocked b = s.isLocked b := by simp [State.isLocked]

@[simp] theorem State.fetchInstr_cfg (s : State) (n : Nat) : (s.fetchInstr n).cfg = s.cfg := by simp [State.fetchInstr]
@[simp] theorem State.fetchInstr_pc (s : State) (n : Nat) : (s.fetchInstr n).pc = s.pc + 1 + BitVec.ofNat 16 n := by simp [State.fetchInstr]
@[simp] theorem State.fetchInstr_a (s : State) (n : Nat) : (s.fetchInstr n).a = s.a := by simp [State.fetchInstr]
@[simp] theorem State.fetchInstr_x (s : State) (n : Nat) : (s.fetchInstr n).x = s.x := by simp [State.fetchInstr]
@[simp] theorem State.fetchInstr_y (s : State) (n : Nat) : (s.fetchInstr n).y = s.y := by simp [State.fetchInstr]
@[simp] theorem State.fetchInstr_sp (s : State) (n : Nat) : (s.fetchInstr n).sp = s.sp := by simp [State.fetchInstr]
@[simp] theorem State.fetchInstr_p (s : State) (n : Nat) : (s.fetchInstr n).p = s.p := by simp [State.fetchInstr]
@[simp] theorem State.fetchInstr_cycles (s : State) (n : Nat) : (s.fetchInstr n).cycles = s.cycles := by simp [State.fetchInstr]
@[simp] theorem State.fetchInstr_runState (s : State) (n : Nat) : (s.fetchInstr n).runState = s.runState := by simp [State.fetchInstr]
@[simp] theorem State.fetchInstr_proceed (s : State) (n : Nat) : (s.fetchInstr n).proceed = s.proceed := by simp [State.fetchInstr]
@[simp] theorem State.fetchInstr_irqLine (s : State) (n : Nat) : (s.fetchInstr n).irqLine = s.irqLine := by simp [State.fetchInstr]
@[simp] theorem State.fetchInstr_nmiPending (s : State) (n : Nat) : (s.fetchInstr n).nmiPending = s.nmiPending := by simp [State.fetchInstr]
@[simp] theorem State.fetchInstr_mem (s : State) (n : Nat) : (s.fetchInstr n).mem = s.mem := by simp [State.fetchInstr]
@[simp] theorem State.fetchInstr_lock (s : State) (n : Nat) : (s.fetchInstr n).lock = s.lock := by simp [State.fetchInstr]
@[simp] theorem State.fetchInstr_peek (s : State) (n : Nat) (b : Word) : (s.fetchInstr n).peek b = s.peek b := by simp [State.fetchInstr]
@[simp] theorem State.fetchInstr_isLocked (s : State) (n : Nat) (b : Word) : (s.fetchInstr n).isLocked b = s.isLocked b := by simp [State.fetchInstr]

/-! ### Writing (R43) -/

/-- What a write can do: refused with its event, or stored with its event. -/
theorem State.write_cases (s : State) (a : Word) (v : Byte) :
    (s.isLocked a = true ∧ s.write a v = s.emit (.invalidWrite a v)) ∨
    (s.isLocked a = false ∧
      s.write a v = (s.withMem (s.mem.write a.toNat v)).emit (.byteWritten a v)) := by
  unfold State.write
  cases s.isLocked a <;> simp

@[simp] theorem State.write_cfg (s : State) (a : Word) (v : Byte) : (s.write a v).cfg = s.cfg := by unfold State.write; split <;> rfl
@[simp] theorem State.write_pc (s : State) (a : Word) (v : Byte) : (s.write a v).pc = s.pc := by unfold State.write; split <;> rfl
@[simp] theorem State.write_a (s : State) (a : Word) (v : Byte) : (s.write a v).a = s.a := by unfold State.write; split <;> rfl
@[simp] theorem State.write_x (s : State) (a : Word) (v : Byte) : (s.write a v).x = s.x := by unfold State.write; split <;> rfl
@[simp] theorem State.write_y (s : State) (a : Word) (v : Byte) : (s.write a v).y = s.y := by unfold State.write; split <;> rfl
@[simp] theorem State.write_sp (s : State) (a : Word) (v : Byte) : (s.write a v).sp = s.sp := by unfold State.write; split <;> rfl
@[simp] theorem State.write_p (s : State) (a : Word) (v : Byte) : (s.write a v).p = s.p := by unfold State.write; split <;> rfl
@[simp] theorem State.write_cycles (s : State) (a : Word) (v : Byte) : (s.write a v).cycles = s.cycles := by unfold State.write; split <;> rfl
@[simp] theorem State.write_runState (s : State) (a : Word) (v : Byte) : (s.write a v).runState = s.runState := by unfold State.write; split <;> rfl
@[simp] theorem State.write_proceed (s : State) (a : Word) (v : Byte) : (s.write a v).proceed = s.proceed := by unfold State.write; split <;> rfl
@[simp] theorem State.write_irqLine (s : State) (a : Word) (v : Byte) : (s.write a v).irqLine = s.irqLine := by unfold State.write; split <;> rfl
@[simp] theorem State.write_nmiPending (s : State) (a : Word) (v : Byte) : (s.write a v).nmiPending = s.nmiPending := by unfold State.write; split <;> rfl
@[simp] theorem State.write_lock (s : State) (a : Word) (v : Byte) : (s.write a v).lock = s.lock := by unfold State.write; split <;> rfl
@[simp] theorem State.write_isLocked (s : State) (a : Word) (v : Byte) (b : Word) : (s.write a v).isLocked b = s.isLocked b := by unfold State.write; split <;> rfl

/-- Reading a byte after a write: the byte written, unless it is locked or lies elsewhere. -/
theorem State.write_peek (s : State) (a b : Word) (v : Byte) :
    (s.write a v).peek b = if b = a ∧ s.isLocked a = false then v else s.peek b := by
  rcases s.write_cases a v with ⟨h, e⟩ | ⟨h, e⟩
  · simp [e, h]
  · simp [e, h, Memory.read_write, BitVec.toNat_inj]
    rfl

theorem State.write_peek_of_ne (s : State) {a b : Word} (v : Byte) (h : b ≠ a) :
    (s.write a v).peek b = s.peek b := by simp [State.write_peek, h]

/-- A write keeps the canonical form of memory. -/
theorem State.write_mem_wf {s : State} (a : Word) (v : Byte) (h : s.mem.wf = true) :
    (s.write a v).mem.wf = true := by
  rcases s.write_cases a v with ⟨_, e⟩ | ⟨_, e⟩
  · simpa [e] using h
  · simpa [e] using Memory.wf_write v h a.isLt

/-- A write changes no locked byte (R56 (c)). -/
theorem State.write_peek_locked {s : State} (a : Word) (v : Byte) {b : Word}
    (h : s.isLocked b = true) : (s.write a v).peek b = s.peek b := by
  rw [State.write_peek]
  split
  · rename_i hb
    rw [hb.1] at h
    simp [hb.2] at h
  · rfl

/-! ### The stack (R131, R132) -/

@[simp] theorem State.push_cfg (s : State) (v : Byte) : (s.push v).cfg = s.cfg := by simp [State.push]
@[simp] theorem State.push_pc (s : State) (v : Byte) : (s.push v).pc = s.pc := by simp [State.push]
@[simp] theorem State.push_a (s : State) (v : Byte) : (s.push v).a = s.a := by simp [State.push]
@[simp] theorem State.push_x (s : State) (v : Byte) : (s.push v).x = s.x := by simp [State.push]
@[simp] theorem State.push_y (s : State) (v : Byte) : (s.push v).y = s.y := by simp [State.push]
@[simp] theorem State.push_sp (s : State) (v : Byte) : (s.push v).sp = s.sp - 1 := by simp [State.push]
@[simp] theorem State.push_p (s : State) (v : Byte) : (s.push v).p = s.p := by simp [State.push]
@[simp] theorem State.push_cycles (s : State) (v : Byte) : (s.push v).cycles = s.cycles := by simp [State.push]
@[simp] theorem State.push_runState (s : State) (v : Byte) : (s.push v).runState = s.runState := by simp [State.push]
@[simp] theorem State.push_proceed (s : State) (v : Byte) : (s.push v).proceed = s.proceed := by simp [State.push]
@[simp] theorem State.push_irqLine (s : State) (v : Byte) : (s.push v).irqLine = s.irqLine := by simp [State.push]
@[simp] theorem State.push_nmiPending (s : State) (v : Byte) : (s.push v).nmiPending = s.nmiPending := by simp [State.push]
@[simp] theorem State.push_lock (s : State) (v : Byte) : (s.push v).lock = s.lock := by simp [State.push]
@[simp] theorem State.push_isLocked (s : State) (v : Byte) (b : Word) : (s.push v).isLocked b = s.isLocked b := by simp [State.push]

theorem State.push_peek (s : State) (v : Byte) (b : Word) :
    (s.push v).peek b = if b = stackAddr s.sp ∧ s.isLocked (stackAddr s.sp) = false then v else s.peek b := by
  simp [State.push, State.write_peek]

@[simp] theorem State.popped_cfg (s : State) : (s.popped).cfg = s.cfg := rfl
@[simp] theorem State.popped_pc (s : State) : (s.popped).pc = s.pc := rfl
@[simp] theorem State.popped_a (s : State) : (s.popped).a = s.a := rfl
@[simp] theorem State.popped_x (s : State) : (s.popped).x = s.x := rfl
@[simp] theorem State.popped_y (s : State) : (s.popped).y = s.y := rfl
@[simp] theorem State.popped_sp (s : State) : (s.popped).sp = s.sp + 1 := rfl
@[simp] theorem State.popped_p (s : State) : (s.popped).p = s.p := rfl
@[simp] theorem State.popped_cycles (s : State) : (s.popped).cycles = s.cycles := rfl
@[simp] theorem State.popped_runState (s : State) : (s.popped).runState = s.runState := rfl
@[simp] theorem State.popped_proceed (s : State) : (s.popped).proceed = s.proceed := rfl
@[simp] theorem State.popped_irqLine (s : State) : (s.popped).irqLine = s.irqLine := rfl
@[simp] theorem State.popped_nmiPending (s : State) : (s.popped).nmiPending = s.nmiPending := rfl
@[simp] theorem State.popped_mem (s : State) : (s.popped).mem = s.mem := rfl
@[simp] theorem State.popped_lock (s : State) : (s.popped).lock = s.lock := rfl
@[simp] theorem State.popped_trace (s : State) : (s.popped).trace = 
      .byteRead (stackAddr (s.sp + 1)) s.popValue :: s.trace := rfl
@[simp] theorem State.popped_peek (s : State) (b : Word) : (s.popped).peek b = s.peek b := rfl
@[simp] theorem State.popped_isLocked (s : State) (b : Word) : (s.popped).isLocked b = s.isLocked b := rfl

/-! ### Registers with N and Z -/

@[simp] theorem State.transferA_cfg (s : State) (v : Byte) : (s.transferA v).cfg = s.cfg := rfl
@[simp] theorem State.transferA_pc (s : State) (v : Byte) : (s.transferA v).pc = s.pc := rfl
@[simp] theorem State.transferA_a (s : State) (v : Byte) : (s.transferA v).a = v := rfl
@[simp] theorem State.transferA_x (s : State) (v : Byte) : (s.transferA v).x = s.x := rfl
@[simp] theorem State.transferA_y (s : State) (v : Byte) : (s.transferA v).y = s.y := rfl
@[simp] theorem State.transferA_sp (s : State) (v : Byte) : (s.transferA v).sp = s.sp := rfl
@[simp] theorem State.transferA_p (s : State) (v : Byte) : (s.transferA v).p = s.p.setNZ v := rfl
@[simp] theorem State.transferA_cycles (s : State) (v : Byte) : (s.transferA v).cycles = s.cycles := rfl
@[simp] theorem State.transferA_runState (s : State) (v : Byte) : (s.transferA v).runState = s.runState := rfl
@[simp] theorem State.transferA_proceed (s : State) (v : Byte) : (s.transferA v).proceed = s.proceed := rfl
@[simp] theorem State.transferA_irqLine (s : State) (v : Byte) : (s.transferA v).irqLine = s.irqLine := rfl
@[simp] theorem State.transferA_nmiPending (s : State) (v : Byte) : (s.transferA v).nmiPending = s.nmiPending := rfl
@[simp] theorem State.transferA_mem (s : State) (v : Byte) : (s.transferA v).mem = s.mem := rfl
@[simp] theorem State.transferA_lock (s : State) (v : Byte) : (s.transferA v).lock = s.lock := rfl
@[simp] theorem State.transferA_trace (s : State) (v : Byte) : (s.transferA v).trace = s.trace := rfl
@[simp] theorem State.transferA_peek (s : State) (v : Byte) (b : Word) : (s.transferA v).peek b = s.peek b := rfl
@[simp] theorem State.transferA_isLocked (s : State) (v : Byte) (b : Word) : (s.transferA v).isLocked b = s.isLocked b := rfl

@[simp] theorem State.transferX_cfg (s : State) (v : Byte) : (s.transferX v).cfg = s.cfg := rfl
@[simp] theorem State.transferX_pc (s : State) (v : Byte) : (s.transferX v).pc = s.pc := rfl
@[simp] theorem State.transferX_a (s : State) (v : Byte) : (s.transferX v).a = s.a := rfl
@[simp] theorem State.transferX_x (s : State) (v : Byte) : (s.transferX v).x = v := rfl
@[simp] theorem State.transferX_y (s : State) (v : Byte) : (s.transferX v).y = s.y := rfl
@[simp] theorem State.transferX_sp (s : State) (v : Byte) : (s.transferX v).sp = s.sp := rfl
@[simp] theorem State.transferX_p (s : State) (v : Byte) : (s.transferX v).p = s.p.setNZ v := rfl
@[simp] theorem State.transferX_cycles (s : State) (v : Byte) : (s.transferX v).cycles = s.cycles := rfl
@[simp] theorem State.transferX_runState (s : State) (v : Byte) : (s.transferX v).runState = s.runState := rfl
@[simp] theorem State.transferX_proceed (s : State) (v : Byte) : (s.transferX v).proceed = s.proceed := rfl
@[simp] theorem State.transferX_irqLine (s : State) (v : Byte) : (s.transferX v).irqLine = s.irqLine := rfl
@[simp] theorem State.transferX_nmiPending (s : State) (v : Byte) : (s.transferX v).nmiPending = s.nmiPending := rfl
@[simp] theorem State.transferX_mem (s : State) (v : Byte) : (s.transferX v).mem = s.mem := rfl
@[simp] theorem State.transferX_lock (s : State) (v : Byte) : (s.transferX v).lock = s.lock := rfl
@[simp] theorem State.transferX_trace (s : State) (v : Byte) : (s.transferX v).trace = s.trace := rfl
@[simp] theorem State.transferX_peek (s : State) (v : Byte) (b : Word) : (s.transferX v).peek b = s.peek b := rfl
@[simp] theorem State.transferX_isLocked (s : State) (v : Byte) (b : Word) : (s.transferX v).isLocked b = s.isLocked b := rfl

@[simp] theorem State.transferY_cfg (s : State) (v : Byte) : (s.transferY v).cfg = s.cfg := rfl
@[simp] theorem State.transferY_pc (s : State) (v : Byte) : (s.transferY v).pc = s.pc := rfl
@[simp] theorem State.transferY_a (s : State) (v : Byte) : (s.transferY v).a = s.a := rfl
@[simp] theorem State.transferY_x (s : State) (v : Byte) : (s.transferY v).x = s.x := rfl
@[simp] theorem State.transferY_y (s : State) (v : Byte) : (s.transferY v).y = v := rfl
@[simp] theorem State.transferY_sp (s : State) (v : Byte) : (s.transferY v).sp = s.sp := rfl
@[simp] theorem State.transferY_p (s : State) (v : Byte) : (s.transferY v).p = s.p.setNZ v := rfl
@[simp] theorem State.transferY_cycles (s : State) (v : Byte) : (s.transferY v).cycles = s.cycles := rfl
@[simp] theorem State.transferY_runState (s : State) (v : Byte) : (s.transferY v).runState = s.runState := rfl
@[simp] theorem State.transferY_proceed (s : State) (v : Byte) : (s.transferY v).proceed = s.proceed := rfl
@[simp] theorem State.transferY_irqLine (s : State) (v : Byte) : (s.transferY v).irqLine = s.irqLine := rfl
@[simp] theorem State.transferY_nmiPending (s : State) (v : Byte) : (s.transferY v).nmiPending = s.nmiPending := rfl
@[simp] theorem State.transferY_mem (s : State) (v : Byte) : (s.transferY v).mem = s.mem := rfl
@[simp] theorem State.transferY_lock (s : State) (v : Byte) : (s.transferY v).lock = s.lock := rfl
@[simp] theorem State.transferY_trace (s : State) (v : Byte) : (s.transferY v).trace = s.trace := rfl
@[simp] theorem State.transferY_peek (s : State) (v : Byte) (b : Word) : (s.transferY v).peek b = s.peek b := rfl
@[simp] theorem State.transferY_isLocked (s : State) (v : Byte) (b : Word) : (s.transferY v).isLocked b = s.isLocked b := rfl

/-! ### Read-modify-write (R133, R208) -/

@[simp] theorem State.modify_cfg (s : State) (pl : Place) (f : Byte → Byte) (g : Status → Byte → Status) : (s.modify pl f g).cfg = s.cfg := by
  cases pl <;> simp [State.modify]
@[simp] theorem State.modify_pc (s : State) (pl : Place) (f : Byte → Byte) (g : Status → Byte → Status) : (s.modify pl f g).pc = s.pc := by
  cases pl <;> simp [State.modify]
@[simp] theorem State.modify_x (s : State) (pl : Place) (f : Byte → Byte) (g : Status → Byte → Status) : (s.modify pl f g).x = s.x := by
  cases pl <;> simp [State.modify]
@[simp] theorem State.modify_y (s : State) (pl : Place) (f : Byte → Byte) (g : Status → Byte → Status) : (s.modify pl f g).y = s.y := by
  cases pl <;> simp [State.modify]
@[simp] theorem State.modify_sp (s : State) (pl : Place) (f : Byte → Byte) (g : Status → Byte → Status) : (s.modify pl f g).sp = s.sp := by
  cases pl <;> simp [State.modify]
@[simp] theorem State.modify_cycles (s : State) (pl : Place) (f : Byte → Byte) (g : Status → Byte → Status) : (s.modify pl f g).cycles = s.cycles := by
  cases pl <;> simp [State.modify]
@[simp] theorem State.modify_runState (s : State) (pl : Place) (f : Byte → Byte) (g : Status → Byte → Status) : (s.modify pl f g).runState = s.runState := by
  cases pl <;> simp [State.modify]
@[simp] theorem State.modify_proceed (s : State) (pl : Place) (f : Byte → Byte) (g : Status → Byte → Status) : (s.modify pl f g).proceed = s.proceed := by
  cases pl <;> simp [State.modify]
@[simp] theorem State.modify_irqLine (s : State) (pl : Place) (f : Byte → Byte) (g : Status → Byte → Status) : (s.modify pl f g).irqLine = s.irqLine := by
  cases pl <;> simp [State.modify]
@[simp] theorem State.modify_nmiPending (s : State) (pl : Place) (f : Byte → Byte) (g : Status → Byte → Status) : (s.modify pl f g).nmiPending = s.nmiPending := by
  cases pl <;> simp [State.modify]
@[simp] theorem State.modify_lock (s : State) (pl : Place) (f : Byte → Byte) (g : Status → Byte → Status) : (s.modify pl f g).lock = s.lock := by
  cases pl <;> simp [State.modify]
@[simp] theorem State.modify_acc_a (s : State) (f : Byte → Byte) (g : Status → Byte → Status) :
    (s.modify .acc f g).a = f s.a := rfl
@[simp] theorem State.modify_acc_p (s : State) (f : Byte → Byte) (g : Status → Byte → Status) :
    (s.modify .acc f g).p = g s.p s.a := rfl
@[simp] theorem State.modify_acc_peek (s : State) (f : Byte → Byte) (g : Status → Byte → Status) (b : Word) :
    (s.modify .acc f g).peek b = s.peek b := rfl
@[simp] theorem State.modify_mem_a (s : State) (m : MemOperand) (f : Byte → Byte)
    (g : Status → Byte → Status) : (s.modify (.mem m) f g).a = s.a := by simp [State.modify]
@[simp] theorem State.modify_mem_p (s : State) (m : MemOperand) (f : Byte → Byte)
    (g : Status → Byte → Status) : (s.modify (.mem m) f g).p = g s.p (s.peek (m.ea s)) := by
  simp [State.modify]
theorem State.modify_mem_peek (s : State) (m : MemOperand) (f : Byte → Byte)
    (g : Status → Byte → Status) (b : Word) :
    (s.modify (.mem m) f g).peek b =
      if b = m.ea s ∧ s.isLocked (m.ea s) = false then f (s.peek (m.ea s)) else s.peek b := by
  simp [State.modify, State.write_peek]

/-! ### Taking an exception and returning (R314, R293) -/

@[simp] theorem State.interrupt_cfg (s : State) (vec : Word) (k : Bool) : (s.interrupt vec k).cfg = s.cfg := by simp [State.interrupt]
@[simp] theorem State.interrupt_a (s : State) (vec : Word) (k : Bool) : (s.interrupt vec k).a = s.a := by simp [State.interrupt]
@[simp] theorem State.interrupt_x (s : State) (vec : Word) (k : Bool) : (s.interrupt vec k).x = s.x := by simp [State.interrupt]
@[simp] theorem State.interrupt_y (s : State) (vec : Word) (k : Bool) : (s.interrupt vec k).y = s.y := by simp [State.interrupt]
@[simp] theorem State.interrupt_sp (s : State) (vec : Word) (k : Bool) : (s.interrupt vec k).sp = s.sp - 1 - 1 - 1 := by simp [State.interrupt]
@[simp] theorem State.interrupt_p (s : State) (vec : Word) (k : Bool) : (s.interrupt vec k).p = { s.p with i := true } := by simp [State.interrupt]
@[simp] theorem State.interrupt_cycles (s : State) (vec : Word) (k : Bool) : (s.interrupt vec k).cycles = s.cycles := by simp [State.interrupt]
@[simp] theorem State.interrupt_runState (s : State) (vec : Word) (k : Bool) : (s.interrupt vec k).runState = s.runState := by simp [State.interrupt]
@[simp] theorem State.interrupt_proceed (s : State) (vec : Word) (k : Bool) : (s.interrupt vec k).proceed = s.proceed := by simp [State.interrupt]
@[simp] theorem State.interrupt_irqLine (s : State) (vec : Word) (k : Bool) : (s.interrupt vec k).irqLine = s.irqLine := by simp [State.interrupt]
@[simp] theorem State.interrupt_nmiPending (s : State) (vec : Word) (k : Bool) : (s.interrupt vec k).nmiPending = s.nmiPending := by simp [State.interrupt]
@[simp] theorem State.interrupt_lock (s : State) (vec : Word) (k : Bool) : (s.interrupt vec k).lock = s.lock := by simp [State.interrupt]
@[simp] theorem State.interrupt_isLocked (s : State) (vec : Word) (k : Bool) (b : Word) : (s.interrupt vec k).isLocked b = s.isLocked b := by simp [State.interrupt]

/-- The bytes of memory after an entry: those after the three pushes (R315). -/
theorem State.interrupt_peek (s : State) (vec : Word) (b : Bool) (c : Word) :
    (s.interrupt vec b).peek c =
      (((s.push (highByte s.pc)).push (lowByte s.pc)).push (s.p.pushedByte b)).peek c := by
  simp [State.interrupt]

/-- PC after an entry: the word at the vector, read after the pushes. -/
theorem State.interrupt_pc (s : State) (vec : Word) (b : Bool) :
    (s.interrupt vec b).pc = (s.interrupt vec b).peekWord vec := by
  simp [State.interrupt, State.peekWord]

@[simp] theorem State.returnFromInterrupt_cfg (s : State) : (s.returnFromInterrupt).cfg = s.cfg := by simp [State.returnFromInterrupt]
@[simp] theorem State.returnFromInterrupt_a (s : State) : (s.returnFromInterrupt).a = s.a := by simp [State.returnFromInterrupt]
@[simp] theorem State.returnFromInterrupt_x (s : State) : (s.returnFromInterrupt).x = s.x := by simp [State.returnFromInterrupt]
@[simp] theorem State.returnFromInterrupt_y (s : State) : (s.returnFromInterrupt).y = s.y := by simp [State.returnFromInterrupt]
@[simp] theorem State.returnFromInterrupt_sp (s : State) : (s.returnFromInterrupt).sp = s.sp + 1 + 1 + 1 := by simp [State.returnFromInterrupt]
@[simp] theorem State.returnFromInterrupt_p (s : State) : (s.returnFromInterrupt).p = Status.ofByte s.popValue := by simp [State.returnFromInterrupt]
@[simp] theorem State.returnFromInterrupt_cycles (s : State) : (s.returnFromInterrupt).cycles = s.cycles := by simp [State.returnFromInterrupt]
@[simp] theorem State.returnFromInterrupt_runState (s : State) : (s.returnFromInterrupt).runState = s.runState := by simp [State.returnFromInterrupt]
@[simp] theorem State.returnFromInterrupt_proceed (s : State) : (s.returnFromInterrupt).proceed = s.proceed := by simp [State.returnFromInterrupt]
@[simp] theorem State.returnFromInterrupt_irqLine (s : State) : (s.returnFromInterrupt).irqLine = s.irqLine := by simp [State.returnFromInterrupt]
@[simp] theorem State.returnFromInterrupt_nmiPending (s : State) : (s.returnFromInterrupt).nmiPending = s.nmiPending := by simp [State.returnFromInterrupt]
@[simp] theorem State.returnFromInterrupt_mem (s : State) : (s.returnFromInterrupt).mem = s.mem := by simp [State.returnFromInterrupt]
@[simp] theorem State.returnFromInterrupt_lock (s : State) : (s.returnFromInterrupt).lock = s.lock := by simp [State.returnFromInterrupt]
@[simp] theorem State.returnFromInterrupt_peek (s : State) (b : Word) : (s.returnFromInterrupt).peek b = s.peek b := by simp [State.returnFromInterrupt]
@[simp] theorem State.returnFromInterrupt_isLocked (s : State) (b : Word) : (s.returnFromInterrupt).isLocked b = s.isLocked b := by simp [State.returnFromInterrupt]

/-! ### The end of an instruction -/

@[simp] theorem complete_eq (i : Instr) (extra : Nat) (s t : State) :
    complete i extra s t = .next (t.tick (s.cost i extra)) := rfl

/-! ### The status register as a byte (R17, R19) -/

/-- Bit 5 of P as a byte is 1, whatever the flags are. -/
@[simp] theorem Status.toByte_reserved (p : Status) : p.toByte.getLsbD 5 = true := by
  obtain ⟨n, v, b, d, i, z, c⟩ := p
  cases n <;> cases v <;> cases b <;> cases d <;> cases i <;> cases z <;> cases c <;> rfl

/-- Loading the byte of P gives P back. -/
@[simp] theorem Status.ofByte_toByte (p : Status) : Status.ofByte p.toByte = p := by
  obtain ⟨n, v, b, d, i, z, c⟩ := p
  cases n <;> cases v <;> cases b <;> cases d <;> cases i <;> cases z <;> cases c <;> rfl

end Sys2Proof.Machine
end

