-- ==== Sys2Proof/Laws/Exec.lean ====
section
/-! SUPPORT. What an instruction and a step can do, said once: every effect is made of register updates,
reads, writes, events and cycles. A property of pairs of states that holds of these building blocks
holds of every instruction (`exec_built`), and of every step (`step_built`). -/

namespace Sys2Proof.Machine

/-- A relation between a state and a later one that every building block of an instruction meets. -/
structure BuildsUp (R : State → State → Prop) : Prop where
  refl  : ∀ s, R s s
  trans : ∀ {s t u}, R s t → R t u → R s u
  regs  : ∀ (s : State) a x y sp p pc, R s { s with a := a, x := x, y := y, sp := sp, p := p, pc := pc }
  ticks : ∀ s n, R s (State.tick s n)
  reads : ∀ s a, R s (State.noteRead s a)
  write : ∀ s a v, R s (State.write s a v)

namespace BuildsUp

variable {R : State → State → Prop} (h : BuildsUp R)
include h

theorem withA (s : State) (v : Byte) : R s (s.withA v) := h.regs s v s.x s.y s.sp s.p s.pc
theorem withX (s : State) (v : Byte) : R s (s.withX v) := h.regs s s.a v s.y s.sp s.p s.pc
theorem withY (s : State) (v : Byte) : R s (s.withY v) := h.regs s s.a s.x v s.sp s.p s.pc
theorem withSp (s : State) (v : Byte) : R s (s.withSp v) := h.regs s s.a s.x s.y v s.p s.pc
theorem withP (s : State) (q : Status) : R s (s.withP q) := h.regs s s.a s.x s.y s.sp q s.pc
theorem withPc (s : State) (w : Word) : R s (s.withPc w) := h.regs s s.a s.x s.y s.sp s.p w

theorem readWord (s : State) (a : Word) : R s (s.noteReadWord a) :=
  h.trans (h.reads s a) (h.reads _ _)

theorem readWordZP (s : State) (z : Byte) : R s (s.noteReadWordZP z) :=
  h.trans (h.reads s _) (h.reads _ _)

theorem resolve (s : State) (m : MemOperand) : R s (s.resolve m) := by
  cases m <;> first | exact h.refl s | exact h.readWordZP s _

theorem source (s : State) (src : Source) : R s (s.noteSource src) := by
  cases src with
  | imm v => exact h.refl s
  | mem m => exact h.trans (h.resolve s m) (h.reads _ _)

theorem push (s : State) (v : Byte) : R s (s.push v) := h.trans (h.write s _ v) (h.withSp _ _)

theorem popped (s : State) : R s s.popped := h.trans (h.withSp s _) (h.reads _ _)

theorem transferA {s t : State} (hst : R s t) (v : Byte) : R s (t.transferA v) :=
  h.trans hst (h.trans (h.withA t v) (h.withP _ _))

theorem transferX {s t : State} (hst : R s t) (v : Byte) : R s (t.transferX v) :=
  h.trans hst (h.trans (h.withX t v) (h.withP _ _))

theorem transferY {s t : State} (hst : R s t) (v : Byte) : R s (t.transferY v) :=
  h.trans hst (h.trans (h.withY t v) (h.withP _ _))

theorem modify (s : State) (pl : Place) (f : Byte → Byte) (g : Status → Byte → Status) :
    R s (s.modify pl f g) := by
  cases pl with
  | acc => exact h.trans (h.withA s _) (h.withP _ _)
  | mem m => exact h.trans (h.source s (.mem m)) (h.trans (h.write _ _ _) (h.withP _ _))

theorem store (s : State) (m : MemOperand) (v : Byte) : R s (s.store m v) :=
  h.trans (h.resolve s m) (h.write _ _ _)

theorem adc (s : State) (src : Source) : R s (s.adc src) := by
  unfold State.adc
  split <;> exact h.trans (h.source s src) (h.trans (h.withA _ _) (h.withP _ _))

theorem sbc (s : State) (src : Source) : R s (s.sbc src) := by
  unfold State.sbc
  split <;> exact h.trans (h.source s src) (h.trans (h.withA _ _) (h.withP _ _))

theorem interrupt (s : State) (vec : Word) (k : Bool) : R s (s.interrupt vec k) :=
  h.trans (h.trans (h.push s _) (h.trans (h.push _ _) (h.push _ _)))
    (h.trans (h.withP _ _) (h.trans (h.readWord _ vec) (h.withPc _ _)))

theorem softwareInterrupt (s : State) : R s s.softwareInterrupt :=
  h.trans (h.withPc s _) (h.interrupt _ _ _)

theorem returnFromInterrupt (s : State) : R s s.returnFromInterrupt :=
  h.trans (h.trans (h.popped s) (h.withP _ _))
    (h.trans (h.popped _) (h.trans (h.popped _) (h.withPc _ _)))

theorem returnFromSubroutine (s : State) : R s s.returnFromSubroutine :=
  h.trans (h.popped s) (h.trans (h.popped _) (h.withPc _ _))

theorem callSubroutine (s : State) (w : Word) : R s (s.callSubroutine w) :=
  h.trans (h.push s _) (h.trans (h.push _ _) (h.withPc _ _))

theorem jumpIndirect (s : State) (w : Word) : R s (s.jumpIndirect w) :=
  h.trans (h.reads s _) (h.trans (h.reads _ _) (h.withPc _ _))

theorem jumpIndexedIndirect (s : State) (w : Word) : R s (s.jumpIndexedIndirect w) :=
  h.trans (h.readWord s _) (h.withPc _ _)

theorem completes {i : Instr} {extra : Nat} {s t u : State} (hst : R s t)
    (e : complete i extra s t = .next u) : R s u := by
  obtain rfl : t.tick (s.cost i extra) = u := Host.Outcome.next.inj e
  exact h.trans hst (h.ticks _ _)

theorem branch {i : Instr} {taken : Bool} {d : Byte} {s u : State}
    (e : State.branch i taken d s = .next u) : R s u := by
  cases taken with
  | true => exact h.completes (h.withPc s _) e
  | false => exact h.completes (h.refl s) e

theorem bitBranch {i : Instr} {z : Byte} {n : Nat} {want : Bool} {d : Byte} {s u : State}
    (e : State.bitBranch i z n want d s = .next u) : R s u := by
  unfold State.bitBranch at e
  by_cases hb : ((s.peek (zext z)).getLsbD n == want) = true
  · simp only [hb, if_true] at e
    exact h.completes (h.trans (h.reads s _) (h.withPc _ _)) e
  · simp only [hb] at e
    exact h.completes (h.reads s _) e

theorem fallback {i : Instr} {op : Byte} {s u : State}
    (e : State.fallback i op s = .next u) : R s u := by
  unfold State.fallback at e
  split at e
  · exact h.completes (h.softwareInterrupt s) e
  · nomatch e

end BuildsUp

/-- Every effect of every instruction is made of the building blocks. -/
theorem exec_built {R : State → State → Prop} (h : BuildsUp R) {i : Instr} {s t : State}
    (e : exec i s = .next t) : R s t := by
  cases i with
  | ldaXInd _ => exact h.completes (h.transferA (h.source s _) _) e
  | ldaZp _ => exact h.completes (h.transferA (h.source s _) _) e
  | ldaImm _ => exact h.completes (h.transferA (h.source s _) _) e
  | ldaAbs _ => exact h.completes (h.transferA (h.source s _) _) e
  | ldaIndY _ => exact h.completes (h.transferA (h.source s _) _) e
  | ldaZpInd _ => exact h.completes (h.transferA (h.source s _) _) e
  | ldaZpX _ => exact h.completes (h.transferA (h.source s _) _) e
  | ldaAbsY _ => exact h.completes (h.transferA (h.source s _) _) e
  | ldaAbsX _ => exact h.completes (h.transferA (h.source s _) _) e
  | ldxImm _ => exact h.completes (h.transferX (h.source s _) _) e
  | ldxZp _ => exact h.completes (h.transferX (h.source s _) _) e
  | ldxAbs _ => exact h.completes (h.transferX (h.source s _) _) e
  | ldxZpY _ => exact h.completes (h.transferX (h.source s _) _) e
  | ldxAbsY _ => exact h.completes (h.transferX (h.source s _) _) e
  | ldyImm _ => exact h.completes (h.transferY (h.source s _) _) e
  | ldyZp _ => exact h.completes (h.transferY (h.source s _) _) e
  | ldyAbs _ => exact h.completes (h.transferY (h.source s _) _) e
  | ldyZpX _ => exact h.completes (h.transferY (h.source s _) _) e
  | ldyAbsX _ => exact h.completes (h.transferY (h.source s _) _) e
  | staXInd _ => exact h.completes (h.store s _ _) e
  | staZp _ => exact h.completes (h.store s _ _) e
  | staAbs _ => exact h.completes (h.store s _ _) e
  | staIndY _ => exact h.completes (h.store s _ _) e
  | staZpInd _ => exact h.completes (h.store s _ _) e
  | staZpX _ => exact h.completes (h.store s _ _) e
  | staAbsY _ => exact h.completes (h.store s _ _) e
  | staAbsX _ => exact h.completes (h.store s _ _) e
  | stxZp _ => exact h.completes (h.store s _ _) e
  | stxAbs _ => exact h.completes (h.store s _ _) e
  | stxZpY _ => exact h.completes (h.store s _ _) e
  | styZp _ => exact h.completes (h.store s _ _) e
  | styAbs _ => exact h.completes (h.store s _ _) e
  | styZpX _ => exact h.completes (h.store s _ _) e
  | stzZp _ => exact h.completes (h.store s _ _) e
  | stzZpX _ => exact h.completes (h.store s _ _) e
  | stzAbs _ => exact h.completes (h.store s _ _) e
  | stzAbsX _ => exact h.completes (h.store s _ _) e
  | tax => exact h.completes (h.transferX (h.refl s) _) e
  | tay => exact h.completes (h.transferY (h.refl s) _) e
  | txa => exact h.completes (h.transferA (h.refl s) _) e
  | tya => exact h.completes (h.transferA (h.refl s) _) e
  | tsx => exact h.completes (h.transferX (h.refl s) _) e
  | txs => exact h.completes (h.withSp s _) e
  | adcXInd _ => exact h.completes (h.adc s _) e
  | adcZp _ => exact h.completes (h.adc s _) e
  | adcImm _ => exact h.completes (h.adc s _) e
  | adcAbs _ => exact h.completes (h.adc s _) e
  | adcIndY _ => exact h.completes (h.adc s _) e
  | adcZpInd _ => exact h.completes (h.adc s _) e
  | adcZpX _ => exact h.completes (h.adc s _) e
  | adcAbsY _ => exact h.completes (h.adc s _) e
  | adcAbsX _ => exact h.completes (h.adc s _) e
  | sbcXInd _ => exact h.completes (h.sbc s _) e
  | sbcZp _ => exact h.completes (h.sbc s _) e
  | sbcImm _ => exact h.completes (h.sbc s _) e
  | sbcAbs _ => exact h.completes (h.sbc s _) e
  | sbcIndY _ => exact h.completes (h.sbc s _) e
  | sbcZpInd _ => exact h.completes (h.sbc s _) e
  | sbcZpX _ => exact h.completes (h.sbc s _) e
  | sbcAbsY _ => exact h.completes (h.sbc s _) e
  | sbcAbsX _ => exact h.completes (h.sbc s _) e
  | cmpXInd _ => exact h.completes (h.trans (h.source s _) (h.withP _ _)) e
  | cmpZp _ => exact h.completes (h.trans (h.source s _) (h.withP _ _)) e
  | cmpImm _ => exact h.completes (h.trans (h.source s _) (h.withP _ _)) e
  | cmpAbs _ => exact h.completes (h.trans (h.source s _) (h.withP _ _)) e
  | cmpIndY _ => exact h.completes (h.trans (h.source s _) (h.withP _ _)) e
  | cmpZpInd _ => exact h.completes (h.trans (h.source s _) (h.withP _ _)) e
  | cmpZpX _ => exact h.completes (h.trans (h.source s _) (h.withP _ _)) e
  | cmpAbsY _ => exact h.completes (h.trans (h.source s _) (h.withP _ _)) e
  | cmpAbsX _ => exact h.completes (h.trans (h.source s _) (h.withP _ _)) e
  | cpxImm _ => exact h.completes (h.trans (h.source s _) (h.withP _ _)) e
  | cpxZp _ => exact h.completes (h.trans (h.source s _) (h.withP _ _)) e
  | cpxAbs _ => exact h.completes (h.trans (h.source s _) (h.withP _ _)) e
  | cpyImm _ => exact h.completes (h.trans (h.source s _) (h.withP _ _)) e
  | cpyZp _ => exact h.completes (h.trans (h.source s _) (h.withP _ _)) e
  | cpyAbs _ => exact h.completes (h.trans (h.source s _) (h.withP _ _)) e
  | incAcc => exact h.completes (h.modify s _ _ _) e
  | incZp _ => exact h.completes (h.modify s _ _ _) e
  | incAbs _ => exact h.completes (h.modify s _ _ _) e
  | incZpX _ => exact h.completes (h.modify s _ _ _) e
  | incAbsX _ => exact h.completes (h.modify s _ _ _) e
  | decAcc => exact h.completes (h.modify s _ _ _) e
  | decZp _ => exact h.completes (h.modify s _ _ _) e
  | decAbs _ => exact h.completes (h.modify s _ _ _) e
  | decZpX _ => exact h.completes (h.modify s _ _ _) e
  | decAbsX _ => exact h.completes (h.modify s _ _ _) e
  | inx => exact h.completes (h.transferX (h.refl s) _) e
  | iny => exact h.completes (h.transferY (h.refl s) _) e
  | dex => exact h.completes (h.transferX (h.refl s) _) e
  | dey => exact h.completes (h.transferY (h.refl s) _) e
  | andXInd _ => exact h.completes (h.transferA (h.source s _) _) e
  | andZp _ => exact h.completes (h.transferA (h.source s _) _) e
  | andImm _ => exact h.completes (h.transferA (h.source s _) _) e
  | andAbs _ => exact h.completes (h.transferA (h.source s _) _) e
  | andIndY _ => exact h.completes (h.transferA (h.source s _) _) e
  | andZpInd _ => exact h.completes (h.transferA (h.source s _) _) e
  | andZpX _ => exact h.completes (h.transferA (h.source s _) _) e
  | andAbsY _ => exact h.completes (h.transferA (h.source s _) _) e
  | andAbsX _ => exact h.completes (h.transferA (h.source s _) _) e
  | oraXInd _ => exact h.completes (h.transferA (h.source s _) _) e
  | oraZp _ => exact h.completes (h.transferA (h.source s _) _) e
  | oraImm _ => exact h.completes (h.transferA (h.source s _) _) e
  | oraAbs _ => exact h.completes (h.transferA (h.source s _) _) e
  | oraIndY _ => exact h.completes (h.transferA (h.source s _) _) e
  | oraZpInd _ => exact h.completes (h.transferA (h.source s _) _) e
  | oraZpX _ => exact h.completes (h.transferA (h.source s _) _) e
  | oraAbsY _ => exact h.completes (h.transferA (h.source s _) _) e
  | oraAbsX _ => exact h.completes (h.transferA (h.source s _) _) e
  | eorXInd _ => exact h.completes (h.transferA (h.source s _) _) e
  | eorZp _ => exact h.completes (h.transferA (h.source s _) _) e
  | eorImm _ => exact h.completes (h.transferA (h.source s _) _) e
  | eorAbs _ => exact h.completes (h.transferA (h.source s _) _) e
  | eorIndY _ => exact h.completes (h.transferA (h.source s _) _) e
  | eorZpInd _ => exact h.completes (h.transferA (h.source s _) _) e
  | eorZpX _ => exact h.completes (h.transferA (h.source s _) _) e
  | eorAbsY _ => exact h.completes (h.transferA (h.source s _) _) e
  | eorAbsX _ => exact h.completes (h.transferA (h.source s _) _) e
  | bitZp _ => exact h.completes (h.trans (h.source s _) (h.withP _ _)) e
  | bitAbs _ => exact h.completes (h.trans (h.source s _) (h.withP _ _)) e
  | bitZpX _ => exact h.completes (h.trans (h.source s _) (h.withP _ _)) e
  | bitAbsX _ => exact h.completes (h.trans (h.source s _) (h.withP _ _)) e
  | bitImm _ => exact h.completes (h.withP s _) e
  | aslZp _ => exact h.completes (h.modify s _ _ _) e
  | aslAcc => exact h.completes (h.modify s _ _ _) e
  | aslAbs _ => exact h.completes (h.modify s _ _ _) e
  | aslZpX _ => exact h.completes (h.modify s _ _ _) e
  | aslAbsX _ => exact h.completes (h.modify s _ _ _) e
  | lsrZp _ => exact h.completes (h.modify s _ _ _) e
  | lsrAcc => exact h.completes (h.modify s _ _ _) e
  | lsrAbs _ => exact h.completes (h.modify s _ _ _) e
  | lsrZpX _ => exact h.completes (h.modify s _ _ _) e
  | lsrAbsX _ => exact h.completes (h.modify s _ _ _) e
  | rolZp _ => exact h.completes (h.modify s _ _ _) e
  | rolAcc => exact h.completes (h.modify s _ _ _) e
  | rolAbs _ => exact h.completes (h.modify s _ _ _) e
  | rolZpX _ => exact h.completes (h.modify s _ _ _) e
  | rolAbsX _ => exact h.completes (h.modify s _ _ _) e
  | rorZp _ => exact h.completes (h.modify s _ _ _) e
  | rorAcc => exact h.completes (h.modify s _ _ _) e
  | rorAbs _ => exact h.completes (h.modify s _ _ _) e
  | rorZpX _ => exact h.completes (h.modify s _ _ _) e
  | rorAbsX _ => exact h.completes (h.modify s _ _ _) e
  | tsbZp _ => exact h.completes (h.modify s _ _ _) e
  | tsbAbs _ => exact h.completes (h.modify s _ _ _) e
  | trbZp _ => exact h.completes (h.modify s _ _ _) e
  | trbAbs _ => exact h.completes (h.modify s _ _ _) e
  | rmb0 _ => exact h.completes (h.modify s _ _ _) e
  | rmb1 _ => exact h.completes (h.modify s _ _ _) e
  | rmb2 _ => exact h.completes (h.modify s _ _ _) e
  | rmb3 _ => exact h.completes (h.modify s _ _ _) e
  | rmb4 _ => exact h.completes (h.modify s _ _ _) e
  | rmb5 _ => exact h.completes (h.modify s _ _ _) e
  | rmb6 _ => exact h.completes (h.modify s _ _ _) e
  | rmb7 _ => exact h.completes (h.modify s _ _ _) e
  | smb0 _ => exact h.completes (h.modify s _ _ _) e
  | smb1 _ => exact h.completes (h.modify s _ _ _) e
  | smb2 _ => exact h.completes (h.modify s _ _ _) e
  | smb3 _ => exact h.completes (h.modify s _ _ _) e
  | smb4 _ => exact h.completes (h.modify s _ _ _) e
  | smb5 _ => exact h.completes (h.modify s _ _ _) e
  | smb6 _ => exact h.completes (h.modify s _ _ _) e
  | smb7 _ => exact h.completes (h.modify s _ _ _) e
  | bpl _ => exact h.branch e
  | bmi _ => exact h.branch e
  | bvc _ => exact h.branch e
  | bvs _ => exact h.branch e
  | bcc _ => exact h.branch e
  | bcs _ => exact h.branch e
  | bne _ => exact h.branch e
  | beq _ => exact h.branch e
  | bra _ => exact h.completes (h.withPc s _) e
  | bbr0 _ _ => exact h.bitBranch e
  | bbr1 _ _ => exact h.bitBranch e
  | bbr2 _ _ => exact h.bitBranch e
  | bbr3 _ _ => exact h.bitBranch e
  | bbr4 _ _ => exact h.bitBranch e
  | bbr5 _ _ => exact h.bitBranch e
  | bbr6 _ _ => exact h.bitBranch e
  | bbr7 _ _ => exact h.bitBranch e
  | bbs0 _ _ => exact h.bitBranch e
  | bbs1 _ _ => exact h.bitBranch e
  | bbs2 _ _ => exact h.bitBranch e
  | bbs3 _ _ => exact h.bitBranch e
  | bbs4 _ _ => exact h.bitBranch e
  | bbs5 _ _ => exact h.bitBranch e
  | bbs6 _ _ => exact h.bitBranch e
  | bbs7 _ _ => exact h.bitBranch e
  | jmpAbs _ => exact h.completes (h.withPc s _) e
  | jmpInd _ => exact h.completes (h.jumpIndirect s _) e
  | jmpAbsXInd _ => exact h.completes (h.jumpIndexedIndirect s _) e
  | jsr _ => exact h.completes (h.callSubroutine s _) e
  | rts => exact h.completes (h.returnFromSubroutine s) e
  | pha => exact h.completes (h.push s _) e
  | pla => exact h.completes (h.transferA (h.popped s) _) e
  | php => exact h.completes (h.push s _) e
  | plp => exact h.completes (h.trans (h.popped s) (h.withP _ _)) e
  | phx => exact h.completes (h.push s _) e
  | plx => exact h.completes (h.transferX (h.popped s) _) e
  | phy => exact h.completes (h.push s _) e
  | ply => exact h.completes (h.transferY (h.popped s) _) e
  | clc => exact h.completes (h.withP s _) e
  | sec => exact h.completes (h.withP s _) e
  | cli => exact h.completes (h.withP s _) e
  | sei => exact h.completes (h.withP s _) e
  | clv => exact h.completes (h.withP s _) e
  | cld => exact h.completes (h.withP s _) e
  | sed => exact h.completes (h.withP s _) e
  | nop => exact h.completes (h.refl s) e
  | brk => exact h.completes (h.softwareInterrupt s) e
  | rti => exact h.completes (h.returnFromInterrupt s) e
  | illNmos _ => exact h.fallback e
  | illCmos _ => exact h.fallback e

/-- `exec` never faults: Fault has no value. -/
theorem exec_next_or_refused (i : Instr) (s : State) :
    (∃ t, exec i s = .next t) ∨ ∃ r, exec i s = .refused r := by
  cases e : exec i s with
  | next t => exact .inl ⟨t, rfl⟩
  | fault f => nomatch f
  | refused r => exact .inr ⟨r, rfl⟩

/-- What a step with a next state can be: an NMI entry, an IRQ entry, or one instruction. -/
theorem step_cases {s t : State} (e : step s = .next t) :
    s.runState = .running ∧
    ((s.nmiPending = true ∧ t = s.enterNmi) ∨
     (s.nmiPending = false ∧ s.irqLine = true ∧ s.p.i = false ∧ t = s.enterIrq) ∨
     (s.nmiPending = false ∧ (s.irqLine = false ∨ s.p.i = true) ∧
      ∃ u, exec (decodeAt s) (s.fetchInstr (decodeAt s).operandBytes) = .next u ∧
        t = u.emit (.justExecuted s.pc (s.peek s.pc)))) := by
  unfold step at e
  cases hr : s.runState with
  | idle => simp [hr] at e
  | halted => simp [hr] at e
  | running =>
    refine ⟨rfl, ?_⟩
    simp only [hr, State.sampleInterrupts] at e
    cases hn : s.nmiPending with
    | true => simp only [hn, if_true, Host.Outcome.next.injEq] at e; exact .inl ⟨rfl, e.symm⟩
    | false =>
      cases hq : s.irqLine && !s.p.i with
      | true =>
        simp [hn, hq] at e
        simp at hq
        exact .inr (.inl ⟨rfl, hq.1, hq.2, e.symm⟩)
      | false =>
        simp [hn, hq] at e
        have hm : s.irqLine = false ∨ s.p.i = true := by
          cases hi : s.irqLine <;> simp_all
        refine .inr (.inr ⟨rfl, hm, ?_⟩)
        cases hx : exec (decodeAt s) (s.fetchInstr (decodeAt s).operandBytes) with
        | next u =>
          simp only [hx, finishStep, Host.Outcome.next.injEq] at e
          exact ⟨u, rfl, e.symm⟩
        | fault f => nomatch f
        | refused r => simp [hx, finishStep] at e

/-- Every effect of every step is made of the building blocks, the two instruction events, and the clear
of the NMI latch. -/
theorem step_built {R : State → State → Prop} (h : BuildsUp R)
    (hemit : ∀ s p op, R s (State.emit s (.aboutToExecute p op)) ∧ R s (State.emit s (.justExecuted p op)))
    (hnmi : ∀ s, R s (State.withNmiPending s false)) {s t : State} (e : step s = .next t) : R s t := by
  have fetch1 : ∀ u : State, R u u.fetchByte := fun u => h.trans (h.reads u _) (h.withPc _ _)
  have fetchN : ∀ n (u : State), R u (State.fetchBytes n u) := by
    intro n
    induction n with
    | zero => exact fun u => h.refl u
    | succ n ih => exact fun u => h.trans (fetch1 u) (ih _)
  obtain ⟨-, ⟨-, rfl⟩ | ⟨-, -, -, rfl⟩ | ⟨-, -, u, hx, rfl⟩⟩ := step_cases e
  · exact h.trans (hnmi s) (h.trans (h.interrupt _ _ _) (h.ticks _ _))
  · exact h.trans (h.interrupt s _ _) (h.ticks _ _)
  · refine h.trans (h.trans ?_ (exec_built h hx)) (hemit u _ _).2
    exact h.trans (h.trans (fetch1 s) (hemit _ _ _).1) (fetchN _ _)

end Sys2Proof.Machine
end

