-- ==== Sys2Proof/Laws/PerInstr.lean ====
section
/-! SUPPORT. Facts about every instruction as syntax, one lemma per constructor. -/

namespace Sys2Proof.Laws

/-- The encoding of an instruction is as long as its mode says (R72). -/
def EncodedLength.Statement (i : Instr) : Prop := (encode i).length = i.length

theorem EncodedLength.ldaXInd (z : Byte) : EncodedLength.Statement (.ldaXInd z) := rfl
theorem EncodedLength.ldaZp (z : Byte) : EncodedLength.Statement (.ldaZp z) := rfl
theorem EncodedLength.ldaImm (v : Byte) : EncodedLength.Statement (.ldaImm v) := rfl
theorem EncodedLength.ldaAbs (w : Word) : EncodedLength.Statement (.ldaAbs w) := rfl
theorem EncodedLength.ldaIndY (z : Byte) : EncodedLength.Statement (.ldaIndY z) := rfl
theorem EncodedLength.ldaZpInd (z : Byte) : EncodedLength.Statement (.ldaZpInd z) := rfl
theorem EncodedLength.ldaZpX (z : Byte) : EncodedLength.Statement (.ldaZpX z) := rfl
theorem EncodedLength.ldaAbsY (w : Word) : EncodedLength.Statement (.ldaAbsY w) := rfl
theorem EncodedLength.ldaAbsX (w : Word) : EncodedLength.Statement (.ldaAbsX w) := rfl
theorem EncodedLength.ldxImm (v : Byte) : EncodedLength.Statement (.ldxImm v) := rfl
theorem EncodedLength.ldxZp (z : Byte) : EncodedLength.Statement (.ldxZp z) := rfl
theorem EncodedLength.ldxAbs (w : Word) : EncodedLength.Statement (.ldxAbs w) := rfl
theorem EncodedLength.ldxZpY (z : Byte) : EncodedLength.Statement (.ldxZpY z) := rfl
theorem EncodedLength.ldxAbsY (w : Word) : EncodedLength.Statement (.ldxAbsY w) := rfl
theorem EncodedLength.ldyImm (v : Byte) : EncodedLength.Statement (.ldyImm v) := rfl
theorem EncodedLength.ldyZp (z : Byte) : EncodedLength.Statement (.ldyZp z) := rfl
theorem EncodedLength.ldyAbs (w : Word) : EncodedLength.Statement (.ldyAbs w) := rfl
theorem EncodedLength.ldyZpX (z : Byte) : EncodedLength.Statement (.ldyZpX z) := rfl
theorem EncodedLength.ldyAbsX (w : Word) : EncodedLength.Statement (.ldyAbsX w) := rfl
theorem EncodedLength.staXInd (z : Byte) : EncodedLength.Statement (.staXInd z) := rfl
theorem EncodedLength.staZp (z : Byte) : EncodedLength.Statement (.staZp z) := rfl
theorem EncodedLength.staAbs (w : Word) : EncodedLength.Statement (.staAbs w) := rfl
theorem EncodedLength.staIndY (z : Byte) : EncodedLength.Statement (.staIndY z) := rfl
theorem EncodedLength.staZpInd (z : Byte) : EncodedLength.Statement (.staZpInd z) := rfl
theorem EncodedLength.staZpX (z : Byte) : EncodedLength.Statement (.staZpX z) := rfl
theorem EncodedLength.staAbsY (w : Word) : EncodedLength.Statement (.staAbsY w) := rfl
theorem EncodedLength.staAbsX (w : Word) : EncodedLength.Statement (.staAbsX w) := rfl
theorem EncodedLength.stxZp (z : Byte) : EncodedLength.Statement (.stxZp z) := rfl
theorem EncodedLength.stxAbs (w : Word) : EncodedLength.Statement (.stxAbs w) := rfl
theorem EncodedLength.stxZpY (z : Byte) : EncodedLength.Statement (.stxZpY z) := rfl
theorem EncodedLength.styZp (z : Byte) : EncodedLength.Statement (.styZp z) := rfl
theorem EncodedLength.styAbs (w : Word) : EncodedLength.Statement (.styAbs w) := rfl
theorem EncodedLength.styZpX (z : Byte) : EncodedLength.Statement (.styZpX z) := rfl
theorem EncodedLength.stzZp (z : Byte) : EncodedLength.Statement (.stzZp z) := rfl
theorem EncodedLength.stzZpX (z : Byte) : EncodedLength.Statement (.stzZpX z) := rfl
theorem EncodedLength.stzAbs (w : Word) : EncodedLength.Statement (.stzAbs w) := rfl
theorem EncodedLength.stzAbsX (w : Word) : EncodedLength.Statement (.stzAbsX w) := rfl
theorem EncodedLength.tax : EncodedLength.Statement (.tax) := rfl
theorem EncodedLength.tay : EncodedLength.Statement (.tay) := rfl
theorem EncodedLength.txa : EncodedLength.Statement (.txa) := rfl
theorem EncodedLength.tya : EncodedLength.Statement (.tya) := rfl
theorem EncodedLength.tsx : EncodedLength.Statement (.tsx) := rfl
theorem EncodedLength.txs : EncodedLength.Statement (.txs) := rfl
theorem EncodedLength.adcXInd (z : Byte) : EncodedLength.Statement (.adcXInd z) := rfl
theorem EncodedLength.adcZp (z : Byte) : EncodedLength.Statement (.adcZp z) := rfl
theorem EncodedLength.adcImm (v : Byte) : EncodedLength.Statement (.adcImm v) := rfl
theorem EncodedLength.adcAbs (w : Word) : EncodedLength.Statement (.adcAbs w) := rfl
theorem EncodedLength.adcIndY (z : Byte) : EncodedLength.Statement (.adcIndY z) := rfl
theorem EncodedLength.adcZpInd (z : Byte) : EncodedLength.Statement (.adcZpInd z) := rfl
theorem EncodedLength.adcZpX (z : Byte) : EncodedLength.Statement (.adcZpX z) := rfl
theorem EncodedLength.adcAbsY (w : Word) : EncodedLength.Statement (.adcAbsY w) := rfl
theorem EncodedLength.adcAbsX (w : Word) : EncodedLength.Statement (.adcAbsX w) := rfl
theorem EncodedLength.sbcXInd (z : Byte) : EncodedLength.Statement (.sbcXInd z) := rfl
theorem EncodedLength.sbcZp (z : Byte) : EncodedLength.Statement (.sbcZp z) := rfl
theorem EncodedLength.sbcImm (v : Byte) : EncodedLength.Statement (.sbcImm v) := rfl
theorem EncodedLength.sbcAbs (w : Word) : EncodedLength.Statement (.sbcAbs w) := rfl
theorem EncodedLength.sbcIndY (z : Byte) : EncodedLength.Statement (.sbcIndY z) := rfl
theorem EncodedLength.sbcZpInd (z : Byte) : EncodedLength.Statement (.sbcZpInd z) := rfl
theorem EncodedLength.sbcZpX (z : Byte) : EncodedLength.Statement (.sbcZpX z) := rfl
theorem EncodedLength.sbcAbsY (w : Word) : EncodedLength.Statement (.sbcAbsY w) := rfl
theorem EncodedLength.sbcAbsX (w : Word) : EncodedLength.Statement (.sbcAbsX w) := rfl
theorem EncodedLength.cmpXInd (z : Byte) : EncodedLength.Statement (.cmpXInd z) := rfl
theorem EncodedLength.cmpZp (z : Byte) : EncodedLength.Statement (.cmpZp z) := rfl
theorem EncodedLength.cmpImm (v : Byte) : EncodedLength.Statement (.cmpImm v) := rfl
theorem EncodedLength.cmpAbs (w : Word) : EncodedLength.Statement (.cmpAbs w) := rfl
theorem EncodedLength.cmpIndY (z : Byte) : EncodedLength.Statement (.cmpIndY z) := rfl
theorem EncodedLength.cmpZpInd (z : Byte) : EncodedLength.Statement (.cmpZpInd z) := rfl
theorem EncodedLength.cmpZpX (z : Byte) : EncodedLength.Statement (.cmpZpX z) := rfl
theorem EncodedLength.cmpAbsY (w : Word) : EncodedLength.Statement (.cmpAbsY w) := rfl
theorem EncodedLength.cmpAbsX (w : Word) : EncodedLength.Statement (.cmpAbsX w) := rfl
theorem EncodedLength.cpxImm (v : Byte) : EncodedLength.Statement (.cpxImm v) := rfl
theorem EncodedLength.cpxZp (z : Byte) : EncodedLength.Statement (.cpxZp z) := rfl
theorem EncodedLength.cpxAbs (w : Word) : EncodedLength.Statement (.cpxAbs w) := rfl
theorem EncodedLength.cpyImm (v : Byte) : EncodedLength.Statement (.cpyImm v) := rfl
theorem EncodedLength.cpyZp (z : Byte) : EncodedLength.Statement (.cpyZp z) := rfl
theorem EncodedLength.cpyAbs (w : Word) : EncodedLength.Statement (.cpyAbs w) := rfl
theorem EncodedLength.incAcc : EncodedLength.Statement (.incAcc) := rfl
theorem EncodedLength.incZp (z : Byte) : EncodedLength.Statement (.incZp z) := rfl
theorem EncodedLength.incAbs (w : Word) : EncodedLength.Statement (.incAbs w) := rfl
theorem EncodedLength.incZpX (z : Byte) : EncodedLength.Statement (.incZpX z) := rfl
theorem EncodedLength.incAbsX (w : Word) : EncodedLength.Statement (.incAbsX w) := rfl
theorem EncodedLength.decAcc : EncodedLength.Statement (.decAcc) := rfl
theorem EncodedLength.decZp (z : Byte) : EncodedLength.Statement (.decZp z) := rfl
theorem EncodedLength.decAbs (w : Word) : EncodedLength.Statement (.decAbs w) := rfl
theorem EncodedLength.decZpX (z : Byte) : EncodedLength.Statement (.decZpX z) := rfl
theorem EncodedLength.decAbsX (w : Word) : EncodedLength.Statement (.decAbsX w) := rfl
theorem EncodedLength.inx : EncodedLength.Statement (.inx) := rfl
theorem EncodedLength.iny : EncodedLength.Statement (.iny) := rfl
theorem EncodedLength.dex : EncodedLength.Statement (.dex) := rfl
theorem EncodedLength.dey : EncodedLength.Statement (.dey) := rfl
theorem EncodedLength.andXInd (z : Byte) : EncodedLength.Statement (.andXInd z) := rfl
theorem EncodedLength.andZp (z : Byte) : EncodedLength.Statement (.andZp z) := rfl
theorem EncodedLength.andImm (v : Byte) : EncodedLength.Statement (.andImm v) := rfl
theorem EncodedLength.andAbs (w : Word) : EncodedLength.Statement (.andAbs w) := rfl
theorem EncodedLength.andIndY (z : Byte) : EncodedLength.Statement (.andIndY z) := rfl
theorem EncodedLength.andZpInd (z : Byte) : EncodedLength.Statement (.andZpInd z) := rfl
theorem EncodedLength.andZpX (z : Byte) : EncodedLength.Statement (.andZpX z) := rfl
theorem EncodedLength.andAbsY (w : Word) : EncodedLength.Statement (.andAbsY w) := rfl
theorem EncodedLength.andAbsX (w : Word) : EncodedLength.Statement (.andAbsX w) := rfl
theorem EncodedLength.oraXInd (z : Byte) : EncodedLength.Statement (.oraXInd z) := rfl
theorem EncodedLength.oraZp (z : Byte) : EncodedLength.Statement (.oraZp z) := rfl
theorem EncodedLength.oraImm (v : Byte) : EncodedLength.Statement (.oraImm v) := rfl
theorem EncodedLength.oraAbs (w : Word) : EncodedLength.Statement (.oraAbs w) := rfl
theorem EncodedLength.oraIndY (z : Byte) : EncodedLength.Statement (.oraIndY z) := rfl
theorem EncodedLength.oraZpInd (z : Byte) : EncodedLength.Statement (.oraZpInd z) := rfl
theorem EncodedLength.oraZpX (z : Byte) : EncodedLength.Statement (.oraZpX z) := rfl
theorem EncodedLength.oraAbsY (w : Word) : EncodedLength.Statement (.oraAbsY w) := rfl
theorem EncodedLength.oraAbsX (w : Word) : EncodedLength.Statement (.oraAbsX w) := rfl
theorem EncodedLength.eorXInd (z : Byte) : EncodedLength.Statement (.eorXInd z) := rfl
theorem EncodedLength.eorZp (z : Byte) : EncodedLength.Statement (.eorZp z) := rfl
theorem EncodedLength.eorImm (v : Byte) : EncodedLength.Statement (.eorImm v) := rfl
theorem EncodedLength.eorAbs (w : Word) : EncodedLength.Statement (.eorAbs w) := rfl
theorem EncodedLength.eorIndY (z : Byte) : EncodedLength.Statement (.eorIndY z) := rfl
theorem EncodedLength.eorZpInd (z : Byte) : EncodedLength.Statement (.eorZpInd z) := rfl
theorem EncodedLength.eorZpX (z : Byte) : EncodedLength.Statement (.eorZpX z) := rfl
theorem EncodedLength.eorAbsY (w : Word) : EncodedLength.Statement (.eorAbsY w) := rfl
theorem EncodedLength.eorAbsX (w : Word) : EncodedLength.Statement (.eorAbsX w) := rfl
theorem EncodedLength.bitZp (z : Byte) : EncodedLength.Statement (.bitZp z) := rfl
theorem EncodedLength.bitAbs (w : Word) : EncodedLength.Statement (.bitAbs w) := rfl
theorem EncodedLength.bitZpX (z : Byte) : EncodedLength.Statement (.bitZpX z) := rfl
theorem EncodedLength.bitAbsX (w : Word) : EncodedLength.Statement (.bitAbsX w) := rfl
theorem EncodedLength.bitImm (v : Byte) : EncodedLength.Statement (.bitImm v) := rfl
theorem EncodedLength.aslZp (z : Byte) : EncodedLength.Statement (.aslZp z) := rfl
theorem EncodedLength.aslAcc : EncodedLength.Statement (.aslAcc) := rfl
theorem EncodedLength.aslAbs (w : Word) : EncodedLength.Statement (.aslAbs w) := rfl
theorem EncodedLength.aslZpX (z : Byte) : EncodedLength.Statement (.aslZpX z) := rfl
theorem EncodedLength.aslAbsX (w : Word) : EncodedLength.Statement (.aslAbsX w) := rfl
theorem EncodedLength.lsrZp (z : Byte) : EncodedLength.Statement (.lsrZp z) := rfl
theorem EncodedLength.lsrAcc : EncodedLength.Statement (.lsrAcc) := rfl
theorem EncodedLength.lsrAbs (w : Word) : EncodedLength.Statement (.lsrAbs w) := rfl
theorem EncodedLength.lsrZpX (z : Byte) : EncodedLength.Statement (.lsrZpX z) := rfl
theorem EncodedLength.lsrAbsX (w : Word) : EncodedLength.Statement (.lsrAbsX w) := rfl
theorem EncodedLength.rolZp (z : Byte) : EncodedLength.Statement (.rolZp z) := rfl
theorem EncodedLength.rolAcc : EncodedLength.Statement (.rolAcc) := rfl
theorem EncodedLength.rolAbs (w : Word) : EncodedLength.Statement (.rolAbs w) := rfl
theorem EncodedLength.rolZpX (z : Byte) : EncodedLength.Statement (.rolZpX z) := rfl
theorem EncodedLength.rolAbsX (w : Word) : EncodedLength.Statement (.rolAbsX w) := rfl
theorem EncodedLength.rorZp (z : Byte) : EncodedLength.Statement (.rorZp z) := rfl
theorem EncodedLength.rorAcc : EncodedLength.Statement (.rorAcc) := rfl
theorem EncodedLength.rorAbs (w : Word) : EncodedLength.Statement (.rorAbs w) := rfl
theorem EncodedLength.rorZpX (z : Byte) : EncodedLength.Statement (.rorZpX z) := rfl
theorem EncodedLength.rorAbsX (w : Word) : EncodedLength.Statement (.rorAbsX w) := rfl
theorem EncodedLength.tsbZp (z : Byte) : EncodedLength.Statement (.tsbZp z) := rfl
theorem EncodedLength.tsbAbs (w : Word) : EncodedLength.Statement (.tsbAbs w) := rfl
theorem EncodedLength.trbZp (z : Byte) : EncodedLength.Statement (.trbZp z) := rfl
theorem EncodedLength.trbAbs (w : Word) : EncodedLength.Statement (.trbAbs w) := rfl
theorem EncodedLength.rmb0 (z : Byte) : EncodedLength.Statement (.rmb0 z) := rfl
theorem EncodedLength.rmb1 (z : Byte) : EncodedLength.Statement (.rmb1 z) := rfl
theorem EncodedLength.rmb2 (z : Byte) : EncodedLength.Statement (.rmb2 z) := rfl
theorem EncodedLength.rmb3 (z : Byte) : EncodedLength.Statement (.rmb3 z) := rfl
theorem EncodedLength.rmb4 (z : Byte) : EncodedLength.Statement (.rmb4 z) := rfl
theorem EncodedLength.rmb5 (z : Byte) : EncodedLength.Statement (.rmb5 z) := rfl
theorem EncodedLength.rmb6 (z : Byte) : EncodedLength.Statement (.rmb6 z) := rfl
theorem EncodedLength.rmb7 (z : Byte) : EncodedLength.Statement (.rmb7 z) := rfl
theorem EncodedLength.smb0 (z : Byte) : EncodedLength.Statement (.smb0 z) := rfl
theorem EncodedLength.smb1 (z : Byte) : EncodedLength.Statement (.smb1 z) := rfl
theorem EncodedLength.smb2 (z : Byte) : EncodedLength.Statement (.smb2 z) := rfl
theorem EncodedLength.smb3 (z : Byte) : EncodedLength.Statement (.smb3 z) := rfl
theorem EncodedLength.smb4 (z : Byte) : EncodedLength.Statement (.smb4 z) := rfl
theorem EncodedLength.smb5 (z : Byte) : EncodedLength.Statement (.smb5 z) := rfl
theorem EncodedLength.smb6 (z : Byte) : EncodedLength.Statement (.smb6 z) := rfl
theorem EncodedLength.smb7 (z : Byte) : EncodedLength.Statement (.smb7 z) := rfl
theorem EncodedLength.bpl (d : Byte) : EncodedLength.Statement (.bpl d) := rfl
theorem EncodedLength.bmi (d : Byte) : EncodedLength.Statement (.bmi d) := rfl
theorem EncodedLength.bvc (d : Byte) : EncodedLength.Statement (.bvc d) := rfl
theorem EncodedLength.bvs (d : Byte) : EncodedLength.Statement (.bvs d) := rfl
theorem EncodedLength.bcc (d : Byte) : EncodedLength.Statement (.bcc d) := rfl
theorem EncodedLength.bcs (d : Byte) : EncodedLength.Statement (.bcs d) := rfl
theorem EncodedLength.bne (d : Byte) : EncodedLength.Statement (.bne d) := rfl
theorem EncodedLength.beq (d : Byte) : EncodedLength.Statement (.beq d) := rfl
theorem EncodedLength.bra (d : Byte) : EncodedLength.Statement (.bra d) := rfl
theorem EncodedLength.bbr0 (z : Byte) (d : Byte) : EncodedLength.Statement (.bbr0 z d) := rfl
theorem EncodedLength.bbr1 (z : Byte) (d : Byte) : EncodedLength.Statement (.bbr1 z d) := rfl
theorem EncodedLength.bbr2 (z : Byte) (d : Byte) : EncodedLength.Statement (.bbr2 z d) := rfl
theorem EncodedLength.bbr3 (z : Byte) (d : Byte) : EncodedLength.Statement (.bbr3 z d) := rfl
theorem EncodedLength.bbr4 (z : Byte) (d : Byte) : EncodedLength.Statement (.bbr4 z d) := rfl
theorem EncodedLength.bbr5 (z : Byte) (d : Byte) : EncodedLength.Statement (.bbr5 z d) := rfl
theorem EncodedLength.bbr6 (z : Byte) (d : Byte) : EncodedLength.Statement (.bbr6 z d) := rfl
theorem EncodedLength.bbr7 (z : Byte) (d : Byte) : EncodedLength.Statement (.bbr7 z d) := rfl
theorem EncodedLength.bbs0 (z : Byte) (d : Byte) : EncodedLength.Statement (.bbs0 z d) := rfl
theorem EncodedLength.bbs1 (z : Byte) (d : Byte) : EncodedLength.Statement (.bbs1 z d) := rfl
theorem EncodedLength.bbs2 (z : Byte) (d : Byte) : EncodedLength.Statement (.bbs2 z d) := rfl
theorem EncodedLength.bbs3 (z : Byte) (d : Byte) : EncodedLength.Statement (.bbs3 z d) := rfl
theorem EncodedLength.bbs4 (z : Byte) (d : Byte) : EncodedLength.Statement (.bbs4 z d) := rfl
theorem EncodedLength.bbs5 (z : Byte) (d : Byte) : EncodedLength.Statement (.bbs5 z d) := rfl
theorem EncodedLength.bbs6 (z : Byte) (d : Byte) : EncodedLength.Statement (.bbs6 z d) := rfl
theorem EncodedLength.bbs7 (z : Byte) (d : Byte) : EncodedLength.Statement (.bbs7 z d) := rfl
theorem EncodedLength.jmpAbs (w : Word) : EncodedLength.Statement (.jmpAbs w) := rfl
theorem EncodedLength.jmpInd (w : Word) : EncodedLength.Statement (.jmpInd w) := rfl
theorem EncodedLength.jmpAbsXInd (w : Word) : EncodedLength.Statement (.jmpAbsXInd w) := rfl
theorem EncodedLength.jsr (w : Word) : EncodedLength.Statement (.jsr w) := rfl
theorem EncodedLength.rts : EncodedLength.Statement (.rts) := rfl
theorem EncodedLength.pha : EncodedLength.Statement (.pha) := rfl
theorem EncodedLength.pla : EncodedLength.Statement (.pla) := rfl
theorem EncodedLength.php : EncodedLength.Statement (.php) := rfl
theorem EncodedLength.plp : EncodedLength.Statement (.plp) := rfl
theorem EncodedLength.phx : EncodedLength.Statement (.phx) := rfl
theorem EncodedLength.plx : EncodedLength.Statement (.plx) := rfl
theorem EncodedLength.phy : EncodedLength.Statement (.phy) := rfl
theorem EncodedLength.ply : EncodedLength.Statement (.ply) := rfl
theorem EncodedLength.clc : EncodedLength.Statement (.clc) := rfl
theorem EncodedLength.sec : EncodedLength.Statement (.sec) := rfl
theorem EncodedLength.cli : EncodedLength.Statement (.cli) := rfl
theorem EncodedLength.sei : EncodedLength.Statement (.sei) := rfl
theorem EncodedLength.clv : EncodedLength.Statement (.clv) := rfl
theorem EncodedLength.cld : EncodedLength.Statement (.cld) := rfl
theorem EncodedLength.sed : EncodedLength.Statement (.sed) := rfl
theorem EncodedLength.nop : EncodedLength.Statement (.nop) := rfl
theorem EncodedLength.brk : EncodedLength.Statement (.brk) := rfl
theorem EncodedLength.rti : EncodedLength.Statement (.rti) := rfl
theorem EncodedLength.illNmos (op : Byte) : EncodedLength.Statement (.illNmos op) := rfl
theorem EncodedLength.illCmos (op : Byte) : EncodedLength.Statement (.illCmos op) := rfl

end Sys2Proof.Laws
end

