-- ==== Sys2Proof/Tests/Slice0.lean ====
section
/-! SUPPORT. Tests. Expected results come from spec/: encodings from 30_encoding.md R76, results from the
vectors and scenarios of 95_test_vectors.md, each named. At the end, for each obligation with hypotheses, a
concrete state and operands that meet them (witness_…). -/

namespace Sys2Proof.Tests

open Sys2Proof.Machine Sys2Proof.Claims

/-! ### Helpers -/

/-- The start state of 95_test_vectors.md: the reset values, PC given, memory listed, no event yet. -/
def start (v : Variant) (pc : Word) (m : List Host.Cell) : State :=
  { State.reset with
    cfg := .standard v
    pc := pc
    mem := m.foldl (fun m c => Memory.write m c.1 c.2) []
    trace := [] }

/-- The state with `PENALTY_CYCLES = false`. -/
def noPenalty (s : State) : State := { s with cfg := { s.cfg with penaltyCycles := false } }

/-- The state with `ILLEGAL_POLICY = Refuse`. -/
def refusing (s : State) : State := { s with cfg := { s.cfg with illegalPolicy := .refuse } }

/-- PC, A, X, Y, S, P, cycles of a next state, and some bytes of its memory. -/
def sees (regs : List Nat) (bytes : List Host.Cell) : Out → Bool
  | .next t =>
    [t.pc.toNat, t.a.toNat, t.x.toNat, t.y.toNat, t.sp.toNat, t.p.toByte.toNat, t.cycles.toNat] == regs &&
      bytes.all fun c => Memory.read t.mem c.1 == c.2
  | .fault _ => false
  | .refused _ => false

/-- The reason of a refusal. -/
def refusal : Out → Option Refusal
  | .next _ => none
  | .fault _ => none
  | .refused r => some r

/-- The events of a next state, oldest first. -/
def events : Out → List Event
  | .next t => t.trace.reverse
  | .fault _ => []
  | .refused _ => []

/-- Both variants. -/
def bothVariants : List Variant := [.nmos6502, .cmos65c02]

/-- CMOS65C02 alone; NMOS6502 reads the byte as its fallback. -/
def cmosOnly : List Variant := [.cmos65c02]

/-- The bytes are exactly the instruction, in each of the variants. -/
def decodesTo (vs : List Variant) (bytes : List Byte) (i : Instr) : Bool :=
  vs.all fun v => decide (decode v bytes = .ok (i, []))

/-! ### Well-formedness refuses ill-formed terms (WellFormed.lean, R75, R77) -/

/-- The row is not in the variant's table: BRA and STZ on NMOS6502. -/
theorem test_wf_cmos_row_on_nmos :
    (Instr.bra 0x10).wellFormed .nmos6502 = false ∧ (Instr.stzZp 0x10).wellFormed .nmos6502 = false := by decide

/-- A fallback entry stands in its own variant only. -/
theorem test_wf_fallback_of_other_variant :
    (Instr.illNmos 0x02).wellFormed .cmos65c02 = false ∧
      (Instr.illCmos 0x02).wellFormed .nmos6502 = false := by decide

/-- A fallback entry with a legal byte: 0xA9 in both, 0x64 on CMOS65C02. -/
theorem test_wf_fallback_of_legal_byte :
    (Instr.illNmos 0xA9).wellFormed .nmos6502 = false ∧ (Instr.illCmos 0xA9).wellFormed .cmos65c02 = false ∧
      (Instr.illCmos 0x64).wellFormed .cmos65c02 = false := by decide

/-- Well-formed ones. -/
theorem test_wf_accepts :
    (Instr.ldaImm 0x42).wellFormed .nmos6502 = true ∧ (Instr.bra 0x10).wellFormed .cmos65c02 = true ∧
      (Instr.illNmos 0x64).wellFormed .nmos6502 = true ∧ (Instr.illCmos 0xCB).wellFormed .cmos65c02 = true := by
  decide

/-! ### Decoding: every constructor, its opcode byte written out from R76 -/

/-- Opcode bytes of LDA, LDX, LDY (R76); operand bytes low first (R73). -/
theorem test_decode_loads :
    (decodesTo bothVariants [0b10100001, 0x42] (.ldaXInd 0x42) &&
     decodesTo bothVariants [0b10100101, 0x42] (.ldaZp 0x42) &&
     decodesTo bothVariants [0b10101001, 0x42] (.ldaImm 0x42) &&
     decodesTo bothVariants [0b10101101, 0x34, 0x12] (.ldaAbs 0x1234) &&
     decodesTo bothVariants [0b10110001, 0x42] (.ldaIndY 0x42) &&
     decodesTo cmosOnly [0b10110010, 0x42] (.ldaZpInd 0x42) &&
     decodesTo bothVariants [0b10110101, 0x42] (.ldaZpX 0x42) &&
     decodesTo bothVariants [0b10111001, 0x34, 0x12] (.ldaAbsY 0x1234) &&
     decodesTo bothVariants [0b10111101, 0x34, 0x12] (.ldaAbsX 0x1234) &&
     decodesTo bothVariants [0b10100010, 0x42] (.ldxImm 0x42) &&
     decodesTo bothVariants [0b10100110, 0x42] (.ldxZp 0x42) &&
     decodesTo bothVariants [0b10101110, 0x34, 0x12] (.ldxAbs 0x1234) &&
     decodesTo bothVariants [0b10110110, 0x42] (.ldxZpY 0x42) &&
     decodesTo bothVariants [0b10111110, 0x34, 0x12] (.ldxAbsY 0x1234) &&
     decodesTo bothVariants [0b10100000, 0x42] (.ldyImm 0x42) &&
     decodesTo bothVariants [0b10100100, 0x42] (.ldyZp 0x42) &&
     decodesTo bothVariants [0b10101100, 0x34, 0x12] (.ldyAbs 0x1234) &&
     decodesTo bothVariants [0b10110100, 0x42] (.ldyZpX 0x42) &&
     decodesTo bothVariants [0b10111100, 0x34, 0x12] (.ldyAbsX 0x1234)) = true := by decide

/-- Opcode bytes of STA, STX, STY, STZ (R76); operand bytes low first (R73). -/
theorem test_decode_stores :
    (decodesTo bothVariants [0b10000001, 0x42] (.staXInd 0x42) &&
     decodesTo bothVariants [0b10000101, 0x42] (.staZp 0x42) &&
     decodesTo bothVariants [0b10001101, 0x34, 0x12] (.staAbs 0x1234) &&
     decodesTo bothVariants [0b10010001, 0x42] (.staIndY 0x42) &&
     decodesTo cmosOnly [0b10010010, 0x42] (.staZpInd 0x42) &&
     decodesTo bothVariants [0b10010101, 0x42] (.staZpX 0x42) &&
     decodesTo bothVariants [0b10011001, 0x34, 0x12] (.staAbsY 0x1234) &&
     decodesTo bothVariants [0b10011101, 0x34, 0x12] (.staAbsX 0x1234) &&
     decodesTo bothVariants [0b10000110, 0x42] (.stxZp 0x42) &&
     decodesTo bothVariants [0b10001110, 0x34, 0x12] (.stxAbs 0x1234) &&
     decodesTo bothVariants [0b10010110, 0x42] (.stxZpY 0x42) &&
     decodesTo bothVariants [0b10000100, 0x42] (.styZp 0x42) &&
     decodesTo bothVariants [0b10001100, 0x34, 0x12] (.styAbs 0x1234) &&
     decodesTo bothVariants [0b10010100, 0x42] (.styZpX 0x42) &&
     decodesTo cmosOnly [0b01100100, 0x42] (.stzZp 0x42) &&
     decodesTo cmosOnly [0b01110100, 0x42] (.stzZpX 0x42) &&
     decodesTo cmosOnly [0b10011100, 0x34, 0x12] (.stzAbs 0x1234) &&
     decodesTo cmosOnly [0b10011110, 0x34, 0x12] (.stzAbsX 0x1234)) = true := by decide

/-- Opcode bytes of TAX, TAY, TXA, TYA, TSX, TXS (R76); operand bytes low first (R73). -/
theorem test_decode_transfers :
    (decodesTo bothVariants [0b10101010] .tax &&
     decodesTo bothVariants [0b10101000] .tay &&
     decodesTo bothVariants [0b10001010] .txa &&
     decodesTo bothVariants [0b10011000] .tya &&
     decodesTo bothVariants [0b10111010] .tsx &&
     decodesTo bothVariants [0b10011010] .txs) = true := by decide

/-- Opcode bytes of ADC, SBC (R76); operand bytes low first (R73). -/
theorem test_decode_adcSbc :
    (decodesTo bothVariants [0b01100001, 0x42] (.adcXInd 0x42) &&
     decodesTo bothVariants [0b01100101, 0x42] (.adcZp 0x42) &&
     decodesTo bothVariants [0b01101001, 0x42] (.adcImm 0x42) &&
     decodesTo bothVariants [0b01101101, 0x34, 0x12] (.adcAbs 0x1234) &&
     decodesTo bothVariants [0b01110001, 0x42] (.adcIndY 0x42) &&
     decodesTo cmosOnly [0b01110010, 0x42] (.adcZpInd 0x42) &&
     decodesTo bothVariants [0b01110101, 0x42] (.adcZpX 0x42) &&
     decodesTo bothVariants [0b01111001, 0x34, 0x12] (.adcAbsY 0x1234) &&
     decodesTo bothVariants [0b01111101, 0x34, 0x12] (.adcAbsX 0x1234) &&
     decodesTo bothVariants [0b11100001, 0x42] (.sbcXInd 0x42) &&
     decodesTo bothVariants [0b11100101, 0x42] (.sbcZp 0x42) &&
     decodesTo bothVariants [0b11101001, 0x42] (.sbcImm 0x42) &&
     decodesTo bothVariants [0b11101101, 0x34, 0x12] (.sbcAbs 0x1234) &&
     decodesTo bothVariants [0b11110001, 0x42] (.sbcIndY 0x42) &&
     decodesTo cmosOnly [0b11110010, 0x42] (.sbcZpInd 0x42) &&
     decodesTo bothVariants [0b11110101, 0x42] (.sbcZpX 0x42) &&
     decodesTo bothVariants [0b11111001, 0x34, 0x12] (.sbcAbsY 0x1234) &&
     decodesTo bothVariants [0b11111101, 0x34, 0x12] (.sbcAbsX 0x1234)) = true := by decide

/-- Opcode bytes of CMP, CPX, CPY (R76); operand bytes low first (R73). -/
theorem test_decode_compares :
    (decodesTo bothVariants [0b11000001, 0x42] (.cmpXInd 0x42) &&
     decodesTo bothVariants [0b11000101, 0x42] (.cmpZp 0x42) &&
     decodesTo bothVariants [0b11001001, 0x42] (.cmpImm 0x42) &&
     decodesTo bothVariants [0b11001101, 0x34, 0x12] (.cmpAbs 0x1234) &&
     decodesTo bothVariants [0b11010001, 0x42] (.cmpIndY 0x42) &&
     decodesTo cmosOnly [0b11010010, 0x42] (.cmpZpInd 0x42) &&
     decodesTo bothVariants [0b11010101, 0x42] (.cmpZpX 0x42) &&
     decodesTo bothVariants [0b11011001, 0x34, 0x12] (.cmpAbsY 0x1234) &&
     decodesTo bothVariants [0b11011101, 0x34, 0x12] (.cmpAbsX 0x1234) &&
     decodesTo bothVariants [0b11100000, 0x42] (.cpxImm 0x42) &&
     decodesTo bothVariants [0b11100100, 0x42] (.cpxZp 0x42) &&
     decodesTo bothVariants [0b11101100, 0x34, 0x12] (.cpxAbs 0x1234) &&
     decodesTo bothVariants [0b11000000, 0x42] (.cpyImm 0x42) &&
     decodesTo bothVariants [0b11000100, 0x42] (.cpyZp 0x42) &&
     decodesTo bothVariants [0b11001100, 0x34, 0x12] (.cpyAbs 0x1234)) = true := by decide

/-- Opcode bytes of INC, DEC, INX, INY, DEX, DEY (R76); operand bytes low first (R73). -/
theorem test_decode_incDec :
    (decodesTo cmosOnly [0b00011010] .incAcc &&
     decodesTo bothVariants [0b11100110, 0x42] (.incZp 0x42) &&
     decodesTo bothVariants [0b11101110, 0x34, 0x12] (.incAbs 0x1234) &&
     decodesTo bothVariants [0b11110110, 0x42] (.incZpX 0x42) &&
     decodesTo bothVariants [0b11111110, 0x34, 0x12] (.incAbsX 0x1234) &&
     decodesTo cmosOnly [0b00111010] .decAcc &&
     decodesTo bothVariants [0b11000110, 0x42] (.decZp 0x42) &&
     decodesTo bothVariants [0b11001110, 0x34, 0x12] (.decAbs 0x1234) &&
     decodesTo bothVariants [0b11010110, 0x42] (.decZpX 0x42) &&
     decodesTo bothVariants [0b11011110, 0x34, 0x12] (.decAbsX 0x1234) &&
     decodesTo bothVariants [0b11101000] .inx &&
     decodesTo bothVariants [0b11001000] .iny &&
     decodesTo bothVariants [0b11001010] .dex &&
     decodesTo bothVariants [0b10001000] .dey) = true := by decide

/-- Opcode bytes of AND, ORA, EOR, BIT (R76); operand bytes low first (R73). -/
theorem test_decode_logic :
    (decodesTo bothVariants [0b00100001, 0x42] (.andXInd 0x42) &&
     decodesTo bothVariants [0b00100101, 0x42] (.andZp 0x42) &&
     decodesTo bothVariants [0b00101001, 0x42] (.andImm 0x42) &&
     decodesTo bothVariants [0b00101101, 0x34, 0x12] (.andAbs 0x1234) &&
     decodesTo bothVariants [0b00110001, 0x42] (.andIndY 0x42) &&
     decodesTo cmosOnly [0b00110010, 0x42] (.andZpInd 0x42) &&
     decodesTo bothVariants [0b00110101, 0x42] (.andZpX 0x42) &&
     decodesTo bothVariants [0b00111001, 0x34, 0x12] (.andAbsY 0x1234) &&
     decodesTo bothVariants [0b00111101, 0x34, 0x12] (.andAbsX 0x1234) &&
     decodesTo bothVariants [0b00000001, 0x42] (.oraXInd 0x42) &&
     decodesTo bothVariants [0b00000101, 0x42] (.oraZp 0x42) &&
     decodesTo bothVariants [0b00001001, 0x42] (.oraImm 0x42) &&
     decodesTo bothVariants [0b00001101, 0x34, 0x12] (.oraAbs 0x1234) &&
     decodesTo bothVariants [0b00010001, 0x42] (.oraIndY 0x42) &&
     decodesTo cmosOnly [0b00010010, 0x42] (.oraZpInd 0x42) &&
     decodesTo bothVariants [0b00010101, 0x42] (.oraZpX 0x42) &&
     decodesTo bothVariants [0b00011001, 0x34, 0x12] (.oraAbsY 0x1234) &&
     decodesTo bothVariants [0b00011101, 0x34, 0x12] (.oraAbsX 0x1234) &&
     decodesTo bothVariants [0b01000001, 0x42] (.eorXInd 0x42) &&
     decodesTo bothVariants [0b01000101, 0x42] (.eorZp 0x42) &&
     decodesTo bothVariants [0b01001001, 0x42] (.eorImm 0x42) &&
     decodesTo bothVariants [0b01001101, 0x34, 0x12] (.eorAbs 0x1234) &&
     decodesTo bothVariants [0b01010001, 0x42] (.eorIndY 0x42) &&
     decodesTo cmosOnly [0b01010010, 0x42] (.eorZpInd 0x42) &&
     decodesTo bothVariants [0b01010101, 0x42] (.eorZpX 0x42) &&
     decodesTo bothVariants [0b01011001, 0x34, 0x12] (.eorAbsY 0x1234) &&
     decodesTo bothVariants [0b01011101, 0x34, 0x12] (.eorAbsX 0x1234) &&
     decodesTo bothVariants [0b00100100, 0x42] (.bitZp 0x42) &&
     decodesTo bothVariants [0b00101100, 0x34, 0x12] (.bitAbs 0x1234) &&
     decodesTo cmosOnly [0b00110100, 0x42] (.bitZpX 0x42) &&
     decodesTo cmosOnly [0b00111100, 0x34, 0x12] (.bitAbsX 0x1234) &&
     decodesTo cmosOnly [0b10001001, 0x42] (.bitImm 0x42)) = true := by decide

/-- Opcode bytes of ASL, LSR, ROL, ROR (R76); operand bytes low first (R73). -/
theorem test_decode_shifts :
    (decodesTo bothVariants [0b00000110, 0x42] (.aslZp 0x42) &&
     decodesTo bothVariants [0b00001010] .aslAcc &&
     decodesTo bothVariants [0b00001110, 0x34, 0x12] (.aslAbs 0x1234) &&
     decodesTo bothVariants [0b00010110, 0x42] (.aslZpX 0x42) &&
     decodesTo bothVariants [0b00011110, 0x34, 0x12] (.aslAbsX 0x1234) &&
     decodesTo bothVariants [0b01000110, 0x42] (.lsrZp 0x42) &&
     decodesTo bothVariants [0b01001010] .lsrAcc &&
     decodesTo bothVariants [0b01001110, 0x34, 0x12] (.lsrAbs 0x1234) &&
     decodesTo bothVariants [0b01010110, 0x42] (.lsrZpX 0x42) &&
     decodesTo bothVariants [0b01011110, 0x34, 0x12] (.lsrAbsX 0x1234) &&
     decodesTo bothVariants [0b00100110, 0x42] (.rolZp 0x42) &&
     decodesTo bothVariants [0b00101010] .rolAcc &&
     decodesTo bothVariants [0b00101110, 0x34, 0x12] (.rolAbs 0x1234) &&
     decodesTo bothVariants [0b00110110, 0x42] (.rolZpX 0x42) &&
     decodesTo bothVariants [0b00111110, 0x34, 0x12] (.rolAbsX 0x1234) &&
     decodesTo bothVariants [0b01100110, 0x42] (.rorZp 0x42) &&
     decodesTo bothVariants [0b01101010] .rorAcc &&
     decodesTo bothVariants [0b01101110, 0x34, 0x12] (.rorAbs 0x1234) &&
     decodesTo bothVariants [0b01110110, 0x42] (.rorZpX 0x42) &&
     decodesTo bothVariants [0b01111110, 0x34, 0x12] (.rorAbsX 0x1234)) = true := by decide

/-- Opcode bytes of TSB, TRB (R76); operand bytes low first (R73). -/
theorem test_decode_tsbTrb :
    (decodesTo cmosOnly [0b00000100, 0x42] (.tsbZp 0x42) &&
     decodesTo cmosOnly [0b00001100, 0x34, 0x12] (.tsbAbs 0x1234) &&
     decodesTo cmosOnly [0b00010100, 0x42] (.trbZp 0x42) &&
     decodesTo cmosOnly [0b00011100, 0x34, 0x12] (.trbAbs 0x1234)) = true := by decide

/-- Opcode bytes of RMB0 to SMB7 (R76); operand bytes low first (R73). -/
theorem test_decode_rmbSmb :
    (decodesTo cmosOnly [0b00000111, 0x42] (.rmb0 0x42) &&
     decodesTo cmosOnly [0b00010111, 0x42] (.rmb1 0x42) &&
     decodesTo cmosOnly [0b00100111, 0x42] (.rmb2 0x42) &&
     decodesTo cmosOnly [0b00110111, 0x42] (.rmb3 0x42) &&
     decodesTo cmosOnly [0b01000111, 0x42] (.rmb4 0x42) &&
     decodesTo cmosOnly [0b01010111, 0x42] (.rmb5 0x42) &&
     decodesTo cmosOnly [0b01100111, 0x42] (.rmb6 0x42) &&
     decodesTo cmosOnly [0b01110111, 0x42] (.rmb7 0x42) &&
     decodesTo cmosOnly [0b10000111, 0x42] (.smb0 0x42) &&
     decodesTo cmosOnly [0b10010111, 0x42] (.smb1 0x42) &&
     decodesTo cmosOnly [0b10100111, 0x42] (.smb2 0x42) &&
     decodesTo cmosOnly [0b10110111, 0x42] (.smb3 0x42) &&
     decodesTo cmosOnly [0b11000111, 0x42] (.smb4 0x42) &&
     decodesTo cmosOnly [0b11010111, 0x42] (.smb5 0x42) &&
     decodesTo cmosOnly [0b11100111, 0x42] (.smb6 0x42) &&
     decodesTo cmosOnly [0b11110111, 0x42] (.smb7 0x42)) = true := by decide

/-- Opcode bytes of BPL, BMI, BVC, BVS, BCC, BCS, BNE, BEQ, BRA (R76); operand bytes low first (R73). -/
theorem test_decode_branches :
    (decodesTo bothVariants [0b00010000, 0xFB] (.bpl 0xFB) &&
     decodesTo bothVariants [0b00110000, 0xFB] (.bmi 0xFB) &&
     decodesTo bothVariants [0b01010000, 0xFB] (.bvc 0xFB) &&
     decodesTo bothVariants [0b01110000, 0xFB] (.bvs 0xFB) &&
     decodesTo bothVariants [0b10010000, 0xFB] (.bcc 0xFB) &&
     decodesTo bothVariants [0b10110000, 0xFB] (.bcs 0xFB) &&
     decodesTo bothVariants [0b11010000, 0xFB] (.bne 0xFB) &&
     decodesTo bothVariants [0b11110000, 0xFB] (.beq 0xFB) &&
     decodesTo cmosOnly [0b10000000, 0xFB] (.bra 0xFB)) = true := by decide

/-- Opcode bytes of BBR0 to BBS7 (R76); operand bytes low first (R73). -/
theorem test_decode_bitBranches :
    (decodesTo cmosOnly [0b00001111, 0x10, 0xFB] (.bbr0 0x10 0xFB) &&
     decodesTo cmosOnly [0b00011111, 0x10, 0xFB] (.bbr1 0x10 0xFB) &&
     decodesTo cmosOnly [0b00101111, 0x10, 0xFB] (.bbr2 0x10 0xFB) &&
     decodesTo cmosOnly [0b00111111, 0x10, 0xFB] (.bbr3 0x10 0xFB) &&
     decodesTo cmosOnly [0b01001111, 0x10, 0xFB] (.bbr4 0x10 0xFB) &&
     decodesTo cmosOnly [0b01011111, 0x10, 0xFB] (.bbr5 0x10 0xFB) &&
     decodesTo cmosOnly [0b01101111, 0x10, 0xFB] (.bbr6 0x10 0xFB) &&
     decodesTo cmosOnly [0b01111111, 0x10, 0xFB] (.bbr7 0x10 0xFB) &&
     decodesTo cmosOnly [0b10001111, 0x10, 0xFB] (.bbs0 0x10 0xFB) &&
     decodesTo cmosOnly [0b10011111, 0x10, 0xFB] (.bbs1 0x10 0xFB) &&
     decodesTo cmosOnly [0b10101111, 0x10, 0xFB] (.bbs2 0x10 0xFB) &&
     decodesTo cmosOnly [0b10111111, 0x10, 0xFB] (.bbs3 0x10 0xFB) &&
     decodesTo cmosOnly [0b11001111, 0x10, 0xFB] (.bbs4 0x10 0xFB) &&
     decodesTo cmosOnly [0b11011111, 0x10, 0xFB] (.bbs5 0x10 0xFB) &&
     decodesTo cmosOnly [0b11101111, 0x10, 0xFB] (.bbs6 0x10 0xFB) &&
     decodesTo cmosOnly [0b11111111, 0x10, 0xFB] (.bbs7 0x10 0xFB)) = true := by decide

/-- Opcode bytes of JMP, JSR, RTS (R76); operand bytes low first (R73). -/
theorem test_decode_jumps :
    (decodesTo bothVariants [0b01001100, 0x34, 0x12] (.jmpAbs 0x1234) &&
     decodesTo bothVariants [0b01101100, 0x34, 0x12] (.jmpInd 0x1234) &&
     decodesTo cmosOnly [0b01111100, 0x34, 0x12] (.jmpAbsXInd 0x1234) &&
     decodesTo bothVariants [0b00100000, 0x34, 0x12] (.jsr 0x1234) &&
     decodesTo bothVariants [0b01100000] .rts) = true := by decide

/-- Opcode bytes of PHA, PLA, PHP, PLP, PHX, PLX, PHY, PLY (R76); operand bytes low first (R73). -/
theorem test_decode_stack :
    (decodesTo bothVariants [0b01001000] .pha &&
     decodesTo bothVariants [0b01101000] .pla &&
     decodesTo bothVariants [0b00001000] .php &&
     decodesTo bothVariants [0b00101000] .plp &&
     decodesTo cmosOnly [0b11011010] .phx &&
     decodesTo cmosOnly [0b11111010] .plx &&
     decodesTo cmosOnly [0b01011010] .phy &&
     decodesTo cmosOnly [0b01111010] .ply) = true := by decide

/-- Opcode bytes of CLC, SEC, CLI, SEI, CLV, CLD, SED (R76); operand bytes low first (R73). -/
theorem test_decode_flags :
    (decodesTo bothVariants [0b00011000] .clc &&
     decodesTo bothVariants [0b00111000] .sec &&
     decodesTo bothVariants [0b01011000] .cli &&
     decodesTo bothVariants [0b01111000] .sei &&
     decodesTo bothVariants [0b10111000] .clv &&
     decodesTo bothVariants [0b11011000] .cld &&
     decodesTo bothVariants [0b11111000] .sed) = true := by decide

/-- Opcode bytes of NOP, BRK, RTI (R76); operand bytes low first (R73). -/
theorem test_decode_system :
    (decodesTo bothVariants [0b11101010] .nop &&
     decodesTo bothVariants [0b00000000] .brk &&
     decodesTo bothVariants [0b01000000] .rti) = true := by decide

/-- Bytes illegal in a variant (R77): 0x02 in both, 0x64, 0x80 and 0xFF on NMOS6502 alone, 0xDB on both. -/
theorem test_decode_fallback :
    (decodesTo [.nmos6502] [0b00000010] (.illNmos 0x02) && decodesTo [.cmos65c02] [0b00000010] (.illCmos 0x02) &&
     decodesTo [.nmos6502] [0b01100100] (.illNmos 0x64) && decodesTo [.nmos6502] [0b10000000] (.illNmos 0x80) &&
     decodesTo [.nmos6502] [0b11111111] (.illNmos 0xFF) && decodesTo [.nmos6502] [0b11011011] (.illNmos 0xDB) &&
     decodesTo [.cmos65c02] [0b11011011] (.illCmos 0xDB)) = true := by decide

/-- Bytes missing are refused by name; bytes that follow are given back. -/
theorem test_decode_ends :
    decode .nmos6502 [] = .error .noOpcode ∧ decode .nmos6502 [0xA9] = .error (.operandMissing 0xA9) ∧
      decode .nmos6502 [0x8D, 0x34] = .error (.operandMissing 0x8D) ∧
      decode .nmos6502 [0xEA, 0x01, 0x02] = .ok (.nop, [0x01, 0x02]) := by decide

/-- S6: legal bytes, illegal bytes, base cycles over legal bytes. -/
theorem test_S6_counts :
    ((List.range 256).filter fun b => !nmosIllegal.contains (BitVec.ofNat 8 b)).length = 151 ∧
      ((List.range 256).filter fun b => !cmosIllegal.contains (BitVec.ofNat 8 b)).length = 210 := by
  decide +kernel

/-! ### The host's two functions: bit 0 is the least significant bit of the first byte -/

/-- LDA #$42 is the word 0x42A9; STA $3000 the word 0x30008D; a missing operand is zero. -/
theorem test_decodeTableWord :
    decodeTableWord 16 0x42A9 = some (.ldaImm 0x42) ∧ decodeTableWord 24 0x30008D = some (.staAbs 0x3000) ∧
      decodeTableWord 8 0xFF42A9 = some (.ldaImm 0x00) ∧ decodeTableWord 24 0xFB10FF = some (.bbs7 0x10 0xFB) := by
  decide

/-- The next step runs the placed instruction, also with interrupt requests and in Halted (log 9). -/
theorem test_withFetchWord :
    sees [0x0002, 0x42, 0x80, 0x00, 0xFF, 0x24, 2] [] (step (State.reset.withFetchWord 16 0x42A9)) = true ∧
      sees [0x0001, 0x00, 0x81, 0x00, 0xFF, 0xA0, 2] [] (step
        ({ State.reset with
            runState := .halted
            p := .ofByte 0x20
            irqLine := true
            nmiPending := true }.withFetchWord 8 0xE8)) = true := by decide

/-! ### Test vectors: addressing modes (2.1) -/

/-- 95_test_vectors.md AM15. -/
theorem test_AM15 : sees [0x1234, 0x00, 0x80, 0x00, 0xFF, 0x24, 5] []
    (step (start .nmos6502 0x0200
      [(0x3000, 0x12), (0x30FF, 0x34), (0x3100, 0x56), (0x0200, 0x6C), (0x0201, 0xFF), (0x0202, 0x30)])) = true := by decide

/-! ### Test vectors: loads, stores, transfers (2.2) -/

/-- 95_test_vectors.md LS1. -/
theorem test_LS1 : sees [0x0202, 0x00, 0x80, 0x00, 0xFF, 0x26, 2] []
    (step { start .nmos6502 0x0200
      [(0x0200, 0xA9), (0x0201, 0x00)] with a := 0x55 }) = true := by decide

/-- 95_test_vectors.md LS2. -/
theorem test_LS2 : sees [0x0202, 0x80, 0x80, 0x00, 0xFF, 0xA4, 2] []
    (step (start .nmos6502 0x0200
      [(0x0200, 0xA9), (0x0201, 0x80)])) = true := by decide

/-- 95_test_vectors.md LS3. -/
theorem test_LS3 : sees [0x0202, 0x00, 0x00, 0x00, 0xFF, 0x26, 2] []
    (step (start .nmos6502 0x0200
      [(0x0200, 0xA2), (0x0201, 0x00)])) = true := by decide

/-- 95_test_vectors.md LS4. -/
theorem test_LS4 : sees [0x0202, 0x00, 0x80, 0xFF, 0xFF, 0xA4, 2] []
    (step (start .nmos6502 0x0200
      [(0x0200, 0xA0), (0x0201, 0xFF)])) = true := by decide

/-- 95_test_vectors.md LS5. -/
theorem test_LS5 : sees [0x0203, 0x00, 0x7F, 0x20, 0xFF, 0x24, 5] []
    (step { start .nmos6502 0x0200
      [(0x2110, 0x7F), (0x0200, 0xBE), (0x0201, 0xF0), (0x0202, 0x20)] with y := 0x20 }) = true := by decide

/-- 95_test_vectors.md LS6. -/
theorem test_LS6 : sees [0x0203, 0x00, 0x80, 0x01, 0xFF, 0x24, 4] []
    (step (start .nmos6502 0x0200
      [(0x2080, 0x01), (0x0200, 0xBC), (0x0201, 0x00), (0x0202, 0x20)])) = true := by decide

/-- 95_test_vectors.md LS7. -/
theorem test_LS7 : sees [0x0203, 0x42, 0x80, 0x00, 0xFF, 0xA7, 4] [(0x3000, 0x42)]
    (step { start .nmos6502 0x0200
      [(0x0200, 0x8D), (0x0201, 0x00), (0x0202, 0x30)] with a := 0x42, p := .ofByte 0xA7 }) = true := by decide

/-- 95_test_vectors.md LS8. -/
theorem test_LS8 : sees [0x0202, 0x00, 0x80, 0x01, 0xFF, 0x24, 4] [(0x0000, 0x80), (0x0100, 0x00)]
    (step { start .nmos6502 0x0200
      [(0x0200, 0x96), (0x0201, 0xFF)] with y := 0x01 }) = true := by decide

/-- 95_test_vectors.md LS9. -/
theorem test_LS9 : sees [0x0202, 0x00, 0x80, 0x07, 0xFF, 0x24, 3] [(0x0010, 0x07)]
    (step { start .nmos6502 0x0200
      [(0x0200, 0x84), (0x0201, 0x10)] with y := 0x07 }) = true := by decide

/-- 95_test_vectors.md LS10. -/
theorem test_LS10 : sees [0x0202, 0x00, 0x80, 0x00, 0xFF, 0x24, 3] [(0x0010, 0x00)]
    (step (start .cmos65c02 0x0200
      [(0x0010, 0xFF), (0x0200, 0x64), (0x0201, 0x10)])) = true := by decide

/-- 95_test_vectors.md LS11. -/
theorem test_LS11 : sees [0x0203, 0x00, 0x01, 0x00, 0xFF, 0x24, 5] [(0x3100, 0x00)]
    (step { start .cmos65c02 0x0200
      [(0x3100, 0xAA), (0x0200, 0x9E), (0x0201, 0xFF), (0x0202, 0x30)] with x := 0x01 }) = true := by decide

/-- 95_test_vectors.md LS12. -/
theorem test_LS12 : sees [0x9000, 0x00, 0x80, 0x00, 0xFC, 0x24, 7] [(0x0010, 0xFF), (0x01FF, 0x02), (0x01FE, 0x02), (0x01FD, 0x34)]
    (step (start .nmos6502 0x0200
      [(0x0010, 0xFF), (0xFFFE, 0x00), (0xFFFF, 0x90), (0x0200, 0x64), (0x0201, 0x10)])) = true := by decide

/-- 95_test_vectors.md LS13. -/
theorem test_LS13 : sees [0x0203, 0x42, 0x80, 0x00, 0xFF, 0x24, 4] [(0xC000, 0x99)]
    (step { start .nmos6502 0x0200
      [(0xC000, 0x99), (0x0200, 0x8D), (0x0201, 0x00), (0x0202, 0xC0)] with a := 0x42, lock := [0xC000] }) = true := by decide

/-- 95_test_vectors.md LS14. -/
theorem test_LS14 : sees [0x0201, 0x00, 0x00, 0x00, 0xFF, 0x26, 2] []
    (step { start .nmos6502 0x0200
      [(0x0200, 0xAA)] with x := 0x55 }) = true := by decide

/-- 95_test_vectors.md LS15. -/
theorem test_LS15 : sees [0x0201, 0x90, 0x80, 0x90, 0xFF, 0xA4, 2] []
    (step { start .nmos6502 0x0200
      [(0x0200, 0xA8)] with a := 0x90 }) = true := by decide

/-- 95_test_vectors.md LS16. -/
theorem test_LS16 : sees [0x0201, 0x80, 0x80, 0x00, 0xFF, 0xA4, 2] []
    (step (start .nmos6502 0x0200
      [(0x0200, 0x8A)])) = true := by decide

/-- 95_test_vectors.md LS17. -/
theorem test_LS17 : sees [0x0201, 0x01, 0x80, 0x01, 0xFF, 0x24, 2] []
    (step { start .nmos6502 0x0200
      [(0x0200, 0x98)] with a := 0xFF, y := 0x01, p := .ofByte 0xA4 }) = true := by decide

/-- 95_test_vectors.md LS18. -/
theorem test_LS18 : sees [0x0201, 0x00, 0xFF, 0x00, 0xFF, 0xA4, 2] []
    (step (start .nmos6502 0x0200
      [(0x0200, 0xBA)])) = true := by decide

/-- 95_test_vectors.md LS19. -/
theorem test_LS19 : sees [0x0201, 0x00, 0x00, 0x00, 0x00, 0x24, 2] []
    (step { start .nmos6502 0x0200
      [(0x0200, 0x9A)] with x := 0x00, sp := 0x55 }) = true := by decide

/-! ### Test vectors: arithmetic (2.3) -/

/-- 95_test_vectors.md AR1. -/
theorem test_AR1 : sees [0x0202, 0xA0, 0x80, 0x00, 0xFF, 0xE4, 2] []
    (step { start .nmos6502 0x0200
      [(0x0200, 0x69), (0x0201, 0x50)] with a := 0x50 }) = true := by decide

/-- 95_test_vectors.md AR2. -/
theorem test_AR2 : sees [0x0202, 0x00, 0x80, 0x00, 0xFF, 0x27, 2] []
    (step { start .nmos6502 0x0200
      [(0x0200, 0x69), (0x0201, 0x01)] with a := 0xFF }) = true := by decide

/-- 95_test_vectors.md AR7. -/
theorem test_AR7 : sees [0x0202, 0x60, 0x80, 0x00, 0xFF, 0x24, 2] []
    (step { start .nmos6502 0x0200
      [(0x0200, 0xE9), (0x0201, 0xF0)] with a := 0x50, p := .ofByte 0x25 }) = true := by decide

/-- 95_test_vectors.md AR8. -/
theorem test_AR8 : sees [0x0202, 0xFF, 0x80, 0x00, 0xFF, 0xA4, 2] []
    (step { start .nmos6502 0x0200
      [(0x0200, 0xE9), (0x0201, 0x01)] with p := .ofByte 0x25 }) = true := by decide

/-- 95_test_vectors.md AR26. -/
theorem test_AR26 : sees [0x0202, 0x42, 0x80, 0x00, 0xFF, 0x27, 2] []
    (step { start .nmos6502 0x0200
      [(0x0200, 0xC9), (0x0201, 0x42)] with a := 0x42 }) = true := by decide

/-- 95_test_vectors.md AR27. -/
theorem test_AR27 : sees [0x0202, 0x42, 0x80, 0x00, 0xFF, 0xA4, 2] []
    (step { start .nmos6502 0x0200
      [(0x0200, 0xC9), (0x0201, 0x43)] with a := 0x42 }) = true := by decide

/-- 95_test_vectors.md AR29. -/
theorem test_AR29 : sees [0x0202, 0x00, 0x80, 0x00, 0xFF, 0xA4, 2] []
    (step (start .nmos6502 0x0200
      [(0x0200, 0xE0), (0x0201, 0x90)])) = true := by decide

/-- 95_test_vectors.md AR30. -/
theorem test_AR30 : sees [0x0202, 0x00, 0x80, 0x05, 0xFF, 0x25, 2] []
    (step { start .nmos6502 0x0200
      [(0x0200, 0xC0), (0x0201, 0x03)] with y := 0x05 }) = true := by decide

/-- 95_test_vectors.md AR32. -/
theorem test_AR32 : sees [0x0202, 0x00, 0x80, 0x00, 0xFF, 0x26, 5] [(0x0010, 0x00)]
    (step (start .nmos6502 0x0200
      [(0x0010, 0xFF), (0x0200, 0xE6), (0x0201, 0x10)])) = true := by decide

/-- 95_test_vectors.md AR33. -/
theorem test_AR33 : sees [0x0202, 0x00, 0x80, 0x00, 0xFF, 0xA4, 5] [(0x0010, 0xFF)]
    (step (start .nmos6502 0x0200
      [(0x0010, 0x00), (0x0200, 0xC6), (0x0201, 0x10)])) = true := by decide

/-- 95_test_vectors.md AR34. -/
theorem test_AR34 : sees [0x0203, 0x00, 0x01, 0x00, 0xFF, 0xA4, 7] [(0x3100, 0x80)]
    (step { start .nmos6502 0x0200
      [(0x3100, 0x7F), (0x0200, 0xFE), (0x0201, 0xFF), (0x0202, 0x30)] with x := 0x01 }) = true := by decide

/-- 95_test_vectors.md AR36. -/
theorem test_AR36 : sees [0x0201, 0xFF, 0x80, 0x00, 0xFF, 0xA4, 2] []
    (step (start .cmos65c02 0x0200
      [(0x0200, 0x3A)])) = true := by decide

/-- 95_test_vectors.md AR37. -/
theorem test_AR37 : sees [0x0201, 0x00, 0x00, 0x00, 0xFF, 0x26, 2] []
    (step { start .nmos6502 0x0200
      [(0x0200, 0xE8)] with x := 0xFF }) = true := by decide

/-- 95_test_vectors.md AR38. -/
theorem test_AR38 : sees [0x0201, 0x00, 0x80, 0x80, 0xFF, 0xA4, 2] []
    (step { start .nmos6502 0x0200
      [(0x0200, 0xC8)] with y := 0x7F }) = true := by decide

/-- 95_test_vectors.md AR39. -/
theorem test_AR39 : sees [0x0201, 0x00, 0x00, 0x00, 0xFF, 0x26, 2] []
    (step { start .nmos6502 0x0200
      [(0x0200, 0xCA)] with x := 0x01 }) = true := by decide

/-- 95_test_vectors.md AR40. -/
theorem test_AR40 : sees [0x0201, 0x00, 0x80, 0xFF, 0xFF, 0xA4, 2] []
    (step (start .nmos6502 0x0200
      [(0x0200, 0x88)])) = true := by decide

/-! ### Test vectors: logic, shifts, bits (2.4) -/

/-- 95_test_vectors.md LG1. -/
theorem test_LG1 : sees [0x0202, 0x00, 0x80, 0x00, 0xFF, 0x26, 2] []
    (step { start .nmos6502 0x0200
      [(0x0200, 0x29), (0x0201, 0x0F)] with a := 0xF0 }) = true := by decide

/-- 95_test_vectors.md LG2. -/
theorem test_LG2 : sees [0x0202, 0x81, 0x80, 0x00, 0xFF, 0xA4, 2] []
    (step { start .nmos6502 0x0200
      [(0x0200, 0x09), (0x0201, 0x80)] with a := 0x01 }) = true := by decide

/-- 95_test_vectors.md LG3. -/
theorem test_LG3 : sees [0x0202, 0x55, 0x80, 0x00, 0xFF, 0x24, 2] []
    (step { start .nmos6502 0x0200
      [(0x0200, 0x49), (0x0201, 0xFF)] with a := 0xAA }) = true := by decide

/-- 95_test_vectors.md LG4. -/
theorem test_LG4 : sees [0x0202, 0x80, 0x80, 0x00, 0xFF, 0xE5, 2] []
    (step { start .nmos6502 0x0200
      [(0x0200, 0x29), (0x0201, 0xFF)] with a := 0x80, p := .ofByte 0x65 }) = true := by decide

/-- 95_test_vectors.md LG5. -/
theorem test_LG5 : sees [0x0202, 0x01, 0x80, 0x00, 0xFF, 0xE6, 3] []
    (step { start .nmos6502 0x0200
      [(0x0040, 0xC0), (0x0200, 0x24), (0x0201, 0x40)] with a := 0x01 }) = true := by decide

/-- 95_test_vectors.md LG6. -/
theorem test_LG6 : sees [0x0203, 0xFF, 0x80, 0x00, 0xFF, 0x24, 4] []
    (step { start .nmos6502 0x0200
      [(0x3000, 0x3F), (0x0200, 0x2C), (0x0201, 0x00), (0x0202, 0x30)] with a := 0xFF, p := .ofByte 0xE4 }) = true := by decide

/-- 95_test_vectors.md LG9. -/
theorem test_LG9 : sees [0x9000, 0x01, 0x80, 0x00, 0xFC, 0x24, 7] []
    (step { start .nmos6502 0x0200
      [(0xFFFE, 0x00), (0xFFFF, 0x90), (0x0200, 0x89), (0x0201, 0xC0)] with a := 0x01 }) = true := by decide

/-- 95_test_vectors.md LG10. -/
theorem test_LG10 : sees [0x0201, 0x02, 0x80, 0x00, 0xFF, 0x25, 2] []
    (step { start .nmos6502 0x0200
      [(0x0200, 0x0A)] with a := 0x81 }) = true := by decide

/-- 95_test_vectors.md LG11. -/
theorem test_LG11 : sees [0x0201, 0x00, 0x80, 0x00, 0xFF, 0x27, 2] []
    (step { start .nmos6502 0x0200
      [(0x0200, 0x0A)] with a := 0x80 }) = true := by decide

/-- 95_test_vectors.md LG13. -/
theorem test_LG13 : sees [0x0201, 0x01, 0x80, 0x00, 0xFF, 0x25, 2] []
    (step { start .nmos6502 0x0200
      [(0x0200, 0x4A)] with a := 0x03 }) = true := by decide

/-- 95_test_vectors.md LG14. -/
theorem test_LG14 : sees [0x0201, 0x00, 0x80, 0x00, 0xFF, 0x27, 2] []
    (step { start .nmos6502 0x0200
      [(0x0200, 0x4A)] with a := 0x01, p := .ofByte 0xA4 }) = true := by decide

/-- 95_test_vectors.md LG15. -/
theorem test_LG15 : sees [0x0201, 0x81, 0x80, 0x00, 0xFF, 0xA4, 2] []
    (step { start .nmos6502 0x0200
      [(0x0200, 0x2A)] with a := 0x40, p := .ofByte 0x25 }) = true := by decide

/-- 95_test_vectors.md LG16. -/
theorem test_LG16 : sees [0x0201, 0x00, 0x80, 0x00, 0xFF, 0x27, 2] []
    (step { start .nmos6502 0x0200
      [(0x0200, 0x2A)] with a := 0x80 }) = true := by decide

/-- 95_test_vectors.md LG17. -/
theorem test_LG17 : sees [0x0201, 0x81, 0x80, 0x00, 0xFF, 0xA4, 2] []
    (step { start .nmos6502 0x0200
      [(0x0200, 0x6A)] with a := 0x02, p := .ofByte 0x25 }) = true := by decide

/-- 95_test_vectors.md LG18. -/
theorem test_LG18 : sees [0x0201, 0x00, 0x80, 0x00, 0xFF, 0x27, 2] []
    (step { start .nmos6502 0x0200
      [(0x0200, 0x6A)] with a := 0x01 }) = true := by decide

/-- 95_test_vectors.md LG23. -/
theorem test_LG23 : sees [0x0202, 0x0F, 0x80, 0x00, 0xFF, 0x26, 5] [(0x0030, 0xFF)]
    (step { start .cmos65c02 0x0200
      [(0x0030, 0xF0), (0x0200, 0x04), (0x0201, 0x30)] with a := 0x0F }) = true := by decide

/-- 95_test_vectors.md LG24. -/
theorem test_LG24 : sees [0x0202, 0x0F, 0x80, 0x00, 0xFF, 0x24, 5] [(0x0030, 0xF0)]
    (step { start .cmos65c02 0x0200
      [(0x0030, 0xFF), (0x0200, 0x14), (0x0201, 0x30)] with a := 0x0F }) = true := by decide

/-- 95_test_vectors.md LG25. -/
theorem test_LG25 : sees [0x0203, 0xFF, 0x80, 0x00, 0xFF, 0xE6, 6] [(0x3000, 0x00)]
    (step { start .cmos65c02 0x0200
      [(0x3000, 0x00), (0x0200, 0x1C), (0x0201, 0x00), (0x0202, 0x30)] with a := 0xFF, p := .ofByte 0xE4 }) = true := by decide

/-- 95_test_vectors.md LG26. -/
theorem test_LG26 : sees [0x0202, 0x00, 0x80, 0x00, 0xFF, 0x24, 5] [(0x0050, 0xF7)]
    (step (start .cmos65c02 0x0200
      [(0x0050, 0xFF), (0x0200, 0x37), (0x0201, 0x50)])) = true := by decide

/-- 95_test_vectors.md LG27. -/
theorem test_LG27 : sees [0x0202, 0x00, 0x80, 0x00, 0xFF, 0x26, 5] [(0x0050, 0x80)]
    (step { start .cmos65c02 0x0200
      [(0x0050, 0x00), (0x0200, 0xF7), (0x0201, 0x50)] with p := .ofByte 0x26 }) = true := by decide

/-! ### Test vectors: branches, jumps, calls (2.5) -/

/-- 95_test_vectors.md BR1. -/
theorem test_BR1 : sees [0x0207, 0x00, 0x80, 0x00, 0xFF, 0x24, 3] []
    (step (start .nmos6502 0x0200
      [(0x0200, 0x10), (0x0201, 0x05)])) = true := by decide

/-- 95_test_vectors.md BR2. -/
theorem test_BR2 : sees [0x0202, 0x00, 0x80, 0x00, 0xFF, 0xA4, 2] []
    (step { start .nmos6502 0x0200
      [(0x0200, 0x10), (0x0201, 0x05)] with p := .ofByte 0xA4 }) = true := by decide

/-- 95_test_vectors.md BR3. -/
theorem test_BR3 : sees [0x01FE, 0x00, 0x80, 0x00, 0xFF, 0xA4, 4] []
    (step { start .nmos6502 0x0200
      [(0x0200, 0x30), (0x0201, 0xFC)] with p := .ofByte 0xA4 }) = true := by decide

/-- 95_test_vectors.md BR4. -/
theorem test_BR4 : sees [0x0212, 0x00, 0x80, 0x00, 0xFF, 0x24, 3] []
    (step (start .nmos6502 0x0200
      [(0x0200, 0x50), (0x0201, 0x10)])) = true := by decide

/-- 95_test_vectors.md BR5. -/
theorem test_BR5 : sees [0x0202, 0x00, 0x80, 0x00, 0xFF, 0x24, 2] []
    (step (start .nmos6502 0x0200
      [(0x0200, 0x70), (0x0201, 0x10)])) = true := by decide

/-- 95_test_vectors.md BR6. -/
theorem test_BR6 : sees [0x0212, 0x00, 0x80, 0x00, 0xFF, 0x64, 3] []
    (step { start .nmos6502 0x0200
      [(0x0200, 0x70), (0x0201, 0x10)] with p := .ofByte 0x64 }) = true := by decide

/-- 95_test_vectors.md BR7. -/
theorem test_BR7 : sees [0x0204, 0x00, 0x80, 0x00, 0xFF, 0x24, 3] []
    (step (start .nmos6502 0x0200
      [(0x0200, 0x90), (0x0201, 0x02)])) = true := by decide

/-- 95_test_vectors.md BR8. -/
theorem test_BR8 : sees [0x0202, 0x00, 0x80, 0x00, 0xFF, 0x24, 2] []
    (step (start .nmos6502 0x0200
      [(0x0200, 0xB0), (0x0201, 0x02)])) = true := by decide

/-- 95_test_vectors.md BR9. -/
theorem test_BR9 : sees [0x0281, 0x00, 0x80, 0x00, 0xFF, 0x25, 3] []
    (step { start .nmos6502 0x0200
      [(0x0200, 0xB0), (0x0201, 0x7F)] with p := .ofByte 0x25 }) = true := by decide

/-- 95_test_vectors.md BR10. -/
theorem test_BR10 : sees [0x0200, 0x00, 0x80, 0x00, 0xFF, 0x24, 3] []
    (step (start .nmos6502 0x0200
      [(0x0200, 0xD0), (0x0201, 0xFE)])) = true := by decide

/-- 95_test_vectors.md BR11. -/
theorem test_BR11 : sees [0x0182, 0x00, 0x80, 0x00, 0xFF, 0x24, 4] []
    (step (start .nmos6502 0x0200
      [(0x0200, 0xD0), (0x0201, 0x80)])) = true := by decide

/-- 95_test_vectors.md BR12. -/
theorem test_BR12 : sees [0x0302, 0x00, 0x80, 0x00, 0xFF, 0x26, 4] []
    (step { start .nmos6502 0x02FD
      [(0x02FD, 0xF0), (0x02FE, 0x03)] with p := .ofByte 0x26 }) = true := by decide

/-- 95_test_vectors.md BR13. -/
theorem test_BR13 : sees [0x02FF, 0x00, 0x80, 0x00, 0xFF, 0x24, 2] []
    (step (start .nmos6502 0x02FD
      [(0x02FD, 0xF0), (0x02FE, 0x03)])) = true := by decide

/-- 95_test_vectors.md BR14. -/
theorem test_BR14 : sees [0x0012, 0x00, 0x80, 0x00, 0xFF, 0x24, 4] []
    (step (start .nmos6502 0xFFF0
      [(0xFFF0, 0x90), (0xFFF1, 0x20)])) = true := by decide

/-- 95_test_vectors.md BR16. -/
theorem test_BR16 : sees [0x0212, 0x00, 0x80, 0x00, 0xFF, 0x24, 3] []
    (step (start .cmos65c02 0x0200
      [(0x0200, 0x80), (0x0201, 0x10)])) = true := by decide

/-- 95_test_vectors.md BR17. -/
theorem test_BR17 : sees [0x01FE, 0x00, 0x80, 0x00, 0xFF, 0x24, 4] []
    (step (start .cmos65c02 0x0200
      [(0x0200, 0x80), (0x0201, 0xFC)])) = true := by decide

/-- 95_test_vectors.md BR18. -/
theorem test_BR18 : sees [0x0208, 0x00, 0x80, 0x00, 0xFF, 0x24, 6] []
    (step (start .cmos65c02 0x0200
      [(0x0010, 0xFE), (0x0200, 0x0F), (0x0201, 0x10), (0x0202, 0x05)])) = true := by decide

/-- 95_test_vectors.md BR19. -/
theorem test_BR19 : sees [0x0203, 0x00, 0x80, 0x00, 0xFF, 0x24, 5] []
    (step (start .cmos65c02 0x0200
      [(0x0010, 0xFE), (0x0200, 0x8F), (0x0201, 0x10), (0x0202, 0x05)])) = true := by decide

/-- 95_test_vectors.md BR20. -/
theorem test_BR20 : sees [0x01FE, 0x00, 0x80, 0x00, 0xFF, 0x24, 7] []
    (step (start .cmos65c02 0x0200
      [(0x0010, 0x80), (0x0200, 0xFF), (0x0201, 0x10), (0x0202, 0xFB)])) = true := by decide

/-- 95_test_vectors.md BR21. -/
theorem test_BR21 : sees [0x0200, 0x00, 0x80, 0x00, 0xFF, 0x24, 3] []
    (step (start .nmos6502 0x0200
      [(0x0200, 0x4C), (0x0201, 0x00), (0x0202, 0x02)])) = true := by decide

/-- 95_test_vectors.md BR22. -/
theorem test_BR22 : sees [0x0300, 0x00, 0x80, 0x00, 0xFD, 0x24, 6] [(0x01FF, 0x02), (0x01FE, 0x02)]
    (step (start .nmos6502 0x0200
      [(0x0200, 0x20), (0x0201, 0x00), (0x0202, 0x03)])) = true := by decide

/-- 95_test_vectors.md BR23. -/
theorem test_BR23 : sees [0x0300, 0x00, 0x80, 0x00, 0xFE, 0x24, 6] [(0x0100, 0x02), (0x01FF, 0x02)]
    (step { start .nmos6502 0x0200
      [(0x0200, 0x20), (0x0201, 0x00), (0x0202, 0x03)] with sp := 0x00 }) = true := by decide

/-- 95_test_vectors.md BR24. -/
theorem test_BR24 : sees [0x0203, 0x00, 0x80, 0x00, 0xFF, 0x24, 6] []
    (step { start .nmos6502 0x0300
      [(0x01FE, 0x02), (0x01FF, 0x02), (0x0300, 0x60)] with sp := 0xFD }) = true := by decide

/-- 95_test_vectors.md BR25. -/
theorem test_BR25 : sees [0x0000, 0x00, 0x80, 0x00, 0xFF, 0x24, 6] []
    (step { start .nmos6502 0x0300
      [(0x01FE, 0xFF), (0x01FF, 0xFF), (0x0300, 0x60)] with sp := 0xFD }) = true := by decide

/-! ### Test vectors: stack, flags, system (2.6) -/

/-- 95_test_vectors.md SF1. -/
theorem test_SF1 : sees [0x0201, 0x42, 0x80, 0x00, 0xFE, 0x24, 3] [(0x01FF, 0x42)]
    (step { start .nmos6502 0x0200
      [(0x0200, 0x48)] with a := 0x42 }) = true := by decide

/-- 95_test_vectors.md SF2. -/
theorem test_SF2 : sees [0x0201, 0x00, 0x80, 0x00, 0xFF, 0x26, 4] []
    (step { start .nmos6502 0x0200
      [(0x01FF, 0x00), (0x0200, 0x68)] with a := 0x55, sp := 0xFE }) = true := by decide

/-- 95_test_vectors.md SF3. -/
theorem test_SF3 : sees [0x0201, 0x00, 0x80, 0x00, 0xFE, 0x24, 3] [(0x01FF, 0x34)]
    (step (start .nmos6502 0x0200
      [(0x0200, 0x08)])) = true := by decide

/-- 95_test_vectors.md SF4. -/
theorem test_SF4 : sees [0x0201, 0x00, 0x80, 0x00, 0xFF, 0x20, 4] []
    (step { start .nmos6502 0x0200
      [(0x01FF, 0x00), (0x0200, 0x28)] with sp := 0xFE }) = true := by decide

/-- 95_test_vectors.md SF5. -/
theorem test_SF5 : sees [0x0201, 0x00, 0x80, 0x00, 0xFF, 0xFF, 4] []
    (step { start .nmos6502 0x0200
      [(0x01FF, 0xFF), (0x0200, 0x28)] with sp := 0xFE }) = true := by decide

/-- 95_test_vectors.md SF6. -/
theorem test_SF6 : sees [0x0201, 0x81, 0x80, 0x00, 0x00, 0xA4, 4] []
    (step (start .nmos6502 0x0200
      [(0x0100, 0x81), (0x0200, 0x68)])) = true := by decide

/-- 95_test_vectors.md SF7. -/
theorem test_SF7 : sees [0x0201, 0x11, 0x80, 0x00, 0xFF, 0x24, 3] [(0x0100, 0x11)]
    (step { start .nmos6502 0x0200
      [(0x0200, 0x48)] with a := 0x11, sp := 0x00 }) = true := by decide

/-- 95_test_vectors.md SF8. -/
theorem test_SF8 : sees [0x0201, 0x00, 0x80, 0x00, 0xFE, 0x24, 3] [(0x01FF, 0x80)]
    (step (start .cmos65c02 0x0200
      [(0x0200, 0xDA)])) = true := by decide

/-- 95_test_vectors.md SF9. -/
theorem test_SF9 : sees [0x0201, 0x00, 0x00, 0x00, 0xFF, 0x26, 4] []
    (step { start .cmos65c02 0x0200
      [(0x01FF, 0x00), (0x0200, 0xFA)] with sp := 0xFE }) = true := by decide

/-- 95_test_vectors.md SF10. -/
theorem test_SF10 : sees [0x0201, 0x00, 0x80, 0x07, 0xFE, 0x24, 3] [(0x01FF, 0x07)]
    (step { start .cmos65c02 0x0200
      [(0x0200, 0x5A)] with y := 0x07 }) = true := by decide

/-- 95_test_vectors.md SF11. -/
theorem test_SF11 : sees [0x0201, 0x00, 0x80, 0x90, 0xFF, 0xA4, 4] []
    (step { start .cmos65c02 0x0200
      [(0x01FF, 0x90), (0x0200, 0x7A)] with sp := 0xFE }) = true := by decide

/-- 95_test_vectors.md SF12. -/
theorem test_SF12 : sees [0x0201, 0x00, 0x80, 0x00, 0xFF, 0x24, 2] []
    (step { start .nmos6502 0x0200
      [(0x0200, 0x18)] with p := .ofByte 0x25 }) = true := by decide

/-- 95_test_vectors.md SF13. -/
theorem test_SF13 : sees [0x0201, 0x00, 0x80, 0x00, 0xFF, 0x25, 2] []
    (step (start .nmos6502 0x0200
      [(0x0200, 0x38)])) = true := by decide

/-- 95_test_vectors.md SF14. -/
theorem test_SF14 : sees [0x0201, 0x00, 0x80, 0x00, 0xFF, 0x20, 2] []
    (step (start .nmos6502 0x0200
      [(0x0200, 0x58)])) = true := by decide

/-- 95_test_vectors.md SF15. -/
theorem test_SF15 : sees [0x0201, 0x00, 0x80, 0x00, 0xFF, 0x24, 2] []
    (step { start .nmos6502 0x0200
      [(0x0200, 0x78)] with p := .ofByte 0x20 }) = true := by decide

/-- 95_test_vectors.md SF16. -/
theorem test_SF16 : sees [0x0201, 0x00, 0x80, 0x00, 0xFF, 0x24, 2] []
    (step { start .nmos6502 0x0200
      [(0x0200, 0xB8)] with p := .ofByte 0x64 }) = true := by decide

/-- 95_test_vectors.md SF17. -/
theorem test_SF17 : sees [0x0201, 0x00, 0x80, 0x00, 0xFF, 0x24, 2] []
    (step { start .nmos6502 0x0200
      [(0x0200, 0xD8)] with p := .ofByte 0x2C }) = true := by decide

/-- 95_test_vectors.md SF18. -/
theorem test_SF18 : sees [0x0201, 0x00, 0x80, 0x00, 0xFF, 0x2C, 2] []
    (step (start .nmos6502 0x0200
      [(0x0200, 0xF8)])) = true := by decide

/-- 95_test_vectors.md SF19. -/
theorem test_SF19 : sees [0x0201, 0x00, 0x80, 0x00, 0xFF, 0x24, 2] []
    (step (start .nmos6502 0x0200
      [(0x0200, 0xEA)])) = true := by decide

/-- 95_test_vectors.md SF20. -/
theorem test_SF20 : sees [0x9000, 0x00, 0x80, 0x00, 0xFC, 0x24, 7] [(0x01FF, 0x02), (0x01FE, 0x02), (0x01FD, 0x34)]
    (step (start .nmos6502 0x0200
      [(0xFFFE, 0x00), (0xFFFF, 0x90), (0x0200, 0x00), (0x0201, 0xEA)])) = true := by decide

/-- 95_test_vectors.md SF21. -/
theorem test_SF21 : sees [0x9000, 0x00, 0x80, 0x00, 0xFE, 0xEF, 7] [(0x0101, 0x02), (0x0100, 0x02), (0x01FF, 0xFB)]
    (step { start .nmos6502 0x0200
      [(0xFFFE, 0x00), (0xFFFF, 0x90), (0x0200, 0x00)] with sp := 0x01, p := .ofByte 0xEB }) = true := by decide

/-- 95_test_vectors.md SF23. -/
theorem test_SF23 : sees [0x0202, 0x00, 0x80, 0x00, 0xFF, 0x34, 6] []
    (step { start .nmos6502 0x9000
      [(0x01FD, 0x34), (0x01FE, 0x02), (0x01FF, 0x02), (0x9000, 0x40)] with sp := 0xFC }) = true := by decide

/-- 95_test_vectors.md SF24. -/
theorem test_SF24 : sees [0x1234, 0x00, 0x80, 0x00, 0xFF, 0xE3, 6] []
    (step { start .nmos6502 0x9000
      [(0x01FD, 0xC3), (0x01FE, 0x34), (0x01FF, 0x12), (0x9000, 0x40)] with sp := 0xFC }) = true := by decide

/-- 95_test_vectors.md SF26. -/
theorem test_SF26 : sees [0x9000, 0x00, 0x80, 0x00, 0xFC, 0x24, 7] [(0x01FF, 0x02), (0x01FE, 0x02), (0x01FD, 0x34)]
    (step (start .cmos65c02 0x0200
      [(0xFFFE, 0x00), (0xFFFF, 0x90), (0x0200, 0x02)])) = true := by decide

/-- 95_test_vectors.md SF27. -/
theorem test_SF27 : sees [0x9000, 0x00, 0x80, 0x00, 0xFC, 0x24, 7] [(0x01FF, 0x02), (0x01FE, 0x02), (0x01FD, 0x34)]
    (step (start .cmos65c02 0x0200
      [(0xFFFE, 0x00), (0xFFFF, 0x90), (0x0200, 0xCB)])) = true := by decide

/-! ### Test vectors: interrupts (2.7) -/

/-- 95_test_vectors.md IN1. -/
theorem test_IN1 : sees [0x9000, 0x00, 0x80, 0x00, 0xFC, 0x24, 7] [(0x01FF, 0x02), (0x01FE, 0x00), (0x01FD, 0x20)]
    (step { start .nmos6502 0x0200
      [(0xFFFE, 0x00), (0xFFFF, 0x90), (0x0200, 0xEA)] with p := .ofByte 0x20, irqLine := true }) = true := by decide

/-- 95_test_vectors.md IN2. -/
theorem test_IN2 : sees [0x0201, 0x00, 0x80, 0x00, 0xFF, 0x24, 2] [(0x01FF, 0x00)]
    (step { start .nmos6502 0x0200
      [(0xFFFE, 0x00), (0xFFFF, 0x90), (0x0200, 0xEA)] with irqLine := true }) = true := by decide

/-- 95_test_vectors.md IN3. -/
theorem test_IN3 : sees [0xA000, 0x00, 0x80, 0x00, 0xFC, 0x24, 7] [(0x01FF, 0x02), (0x01FE, 0x00), (0x01FD, 0x24)]
    (step { start .nmos6502 0x0200
      [(0xFFFA, 0x00), (0xFFFB, 0xA0), (0x0200, 0xEA)] with nmiPending := true }) = true := by decide

/-- 95_test_vectors.md IN4. -/
theorem test_IN4 : sees [0xA000, 0x00, 0x80, 0x00, 0xFC, 0x24, 7] [(0x01FF, 0x02), (0x01FE, 0x00), (0x01FD, 0x20)]
    (step { start .nmos6502 0x0200
      [(0xFFFA, 0x00), (0xFFFB, 0xA0), (0xFFFE, 0x00), (0xFFFF, 0x90), (0x0200, 0xEA)] with p := .ofByte 0x20, irqLine := true, nmiPending := true }) = true := by decide

/-- 95_test_vectors.md IN7. -/
theorem test_IN7 : sees [0x9000, 0x00, 0x80, 0x00, 0xFC, 0x2C, 7] [(0x01FD, 0x28)]
    (step { start .nmos6502 0x0200
      [(0xFFFE, 0x00), (0xFFFF, 0x90), (0x0200, 0xEA)] with p := .ofByte 0x28, irqLine := true }) = true := by decide

/-! ### Event traces and scenarios (95_test_vectors.md section 1) -/

/-- S1: the trace of LDA #$42 at 0x0200. -/
theorem test_S1_trace :
    events (step (start .nmos6502 0x0200 [(0x0200, 0xA9), (0x0201, 0x42)])) =
      [.byteRead 0x0200 0xA9, .aboutToExecute 0x0200 0xA9, .byteRead 0x0201 0x42,
       .justExecuted 0x0200 0xA9] := by decide

/-- S3: the reads of JMP ($30FF) on each variant. -/
theorem test_S3_reads :
    events (step (start .nmos6502 0x0200
        [(0x0200, 0x6C), (0x0201, 0xFF), (0x0202, 0x30), (0x30FF, 0x34), (0x3000, 0x12), (0x3100, 0x56)])) =
      [.byteRead 0x0200 0x6C, .aboutToExecute 0x0200 0x6C, .byteRead 0x0201 0xFF, .byteRead 0x0202 0x30,
       .byteRead 0x30FF 0x34, .byteRead 0x3000 0x12, .justExecuted 0x0200 0x6C] ∧
    events (step (start .cmos65c02 0x0200
        [(0x0200, 0x6C), (0x0201, 0xFF), (0x0202, 0x30), (0x30FF, 0x34), (0x3000, 0x12), (0x3100, 0x56)])) =
      [.byteRead 0x0200 0x6C, .aboutToExecute 0x0200 0x6C, .byteRead 0x0201 0xFF, .byteRead 0x0202 0x30,
       .byteRead 0x30FF 0x34, .byteRead 0x3100 0x56, .justExecuted 0x0200 0x6C] := by decide

/-- S4: the trace of BRK at 0x0200; the padding byte is not read. -/
theorem test_S4_trace :
    events (step (start .nmos6502 0x0200 [(0x0200, 0x00), (0x0201, 0xEA), (0xFFFE, 0x00), (0xFFFF, 0x90)])) =
      [.byteRead 0x0200 0x00, .aboutToExecute 0x0200 0x00, .byteWritten 0x01FF 0x02, .byteWritten 0x01FE 0x02,
       .byteWritten 0x01FD 0x34, .byteRead 0xFFFE 0x00, .byteRead 0xFFFF 0x90, .justExecuted 0x0200 0x00] := by
  decide

/-- R136, last sentence: an interrupt entry emits three writes and two reads, no instruction event. -/
theorem test_irq_trace :
    events (step { start .nmos6502 0x0200 [(0x0200, 0xEA), (0xFFFF, 0x90)] with
        p := .ofByte 0x20
        irqLine := true }) =
      [.byteWritten 0x01FF 0x02, .byteWritten 0x01FE 0x00, .byteWritten 0x01FD 0x20, .byteRead 0xFFFE 0x00,
       .byteRead 0xFFFF 0x90] := by decide

/-- S5: instances of the status byte round trip. -/
theorem test_S5_instances :
    (Status.ofByte 0x00).toByte = 0x20 ∧ (Status.ofByte 0xFF).toByte = 0xFF ∧ (Status.ofByte 0xDF).toByte = 0xFF ∧
      (Status.ofByte 0xC3).toByte = 0xE3 ∧ (Status.ofByte 0x24).toByte = 0x24 ∧
      (Status.ofByte 0x10).toByte = 0x30 := by decide

/-- S8: a locked image, a refused write, a write beyond it. -/
theorem test_S8_lock :
    (match (start .nmos6502 0x0200 []).loadImage [0xA2, 0xFF] 0xF000 true with
     | .ok (n, t) =>
       decide (n = 2) && t.isLocked 0xF000 && t.isLocked 0xF001 && !t.isLocked 0xEFFF && !t.isLocked 0xF002 &&
         decide ((t.write 0xF000 0x5A).peek 0xF000 = 0xA2) &&
         decide ((t.write 0xF000 0x5A).trace = [.invalidWrite 0xF000 0x5A]) &&
         decide ((t.write 0xF002 0x5A).peek 0xF002 = 0x5A)
     | .error _ => false) = true := by decide

/-! ### Host operations (95_test_vectors.md section 2.8) -/

/-- RS1: `reset()`. -/
theorem test_RS1_reset :
    { start .nmos6502 0x4321 [(0xFFFD, 0x80)] with
      a := 0x33
      x := 0x01
      y := 0x02
      sp := 0x03
      p := .ofByte 0xFF
      cycles := 99
      nmiPending := true
      proceed := false
      irqLine := true
      runState := .halted }.hostReset =
    { start .nmos6502 0x8000 [(0xFFFD, 0x80)] with
      irqLine := true
      trace := [.byteRead 0xFFFD 0x80, .byteRead 0xFFFC 0x00] } := by decide

/-- RS2, first step: from power-on and `reset()` with empty memory, BRK at 0x0000. -/
theorem test_RS2_first_step :
    sees [0x0000, 0x00, 0x80, 0x00, 0xFC, 0x24, 7] [(0x01FF, 0x00), (0x01FE, 0x02), (0x01FD, 0x34)]
      (step State.reset) = true := by decide

/-- RS3: `start(0x1234)`. -/
theorem test_RS3_start :
    { start .nmos6502 0x4321 [] with
      a := 0x33
      cycles := 99
      proceed := false
      nmiPending := true
      runState := .halted }.hostStart 0x1234 =
    { start .nmos6502 0x1234 [] with
      a := 0x33
      nmiPending := true } := by decide

/-- RS4: an observer clears `proceed` in reaction to the third of three NOPs; 11 events. -/
theorem test_RS4_run :
    (match (start .nmos6502 0x0200 [(0x0200, 0xEA), (0x0201, 0xEA), (0x0202, 0xEA)]).hostRun
        [[], [], [.clearProceed]] with
     | .finished t =>
       decide (t.pc = 0x0203) && decide (t.cycles = 6) && !t.proceed && decide (t.runState = .halted) &&
         decide (t.trace.length = 11) && decide (t.trace.head? = some .runFinished) &&
         decide (t.trace.getLast? = some .runStarting)
     | .running _ => false
     | .refused _ => false) = true := by decide

/-- RS5: `proceed` cleared before the call: no step. -/
theorem test_RS5_run_stopped :
    { start .nmos6502 0x0200 [] with proceed := false }.hostRun [[]] =
      .finished { start .nmos6502 0x0200 [] with
        proceed := false
        runState := .halted
        trace := [.runFinished, .runStarting] } := by decide

/-- RS6: a step in Idle is refused (D29). -/
theorem test_RS6_idle :
    refusal (step (State.powerOn (.standard .nmos6502))) = some (.notRunning .idle) := by decide

/-- RS7: a load over a locked byte stores it and keeps the lock. -/
theorem test_RS7_load_over_lock :
    { start .nmos6502 0x0200 [(0x1000, 0x11)] with lock := [0x1000] }.act (.loadImage [0x22] 0x1000 false) =
      { start .nmos6502 0x0200 [(0x1000, 0x22)] with lock := [0x1000] } := by decide

/-- RS8 and S8: three bytes at 0xFFFE do not fit, two do, two at 0xFFFF do not. -/
theorem test_RS8_load_bounds :
    (start .nmos6502 0x0200 []).act (.loadImage [1, 2, 3] 0xFFFE true) = start .nmos6502 0x0200 [] ∧
      (start .nmos6502 0x0200 []).act (.loadImage [1, 2] 0xFFFF true) = start .nmos6502 0x0200 [] ∧
      (start .nmos6502 0x0200 []).act (.loadImage [1, 2] 0xFFFE false) =
        start .nmos6502 0x0200 [(0xFFFE, 1), (0xFFFF, 2)] := by decide

/-- RS9: `clear()`. -/
theorem test_RS9_clear :
    { start .nmos6502 0x0200 [(0xF000, 0xA2)] with lock := [0xF000] }.hostClear = start .nmos6502 0x0200 [] := by
  decide

/-- Writing the byte an unlisted address reads as removes the entry. -/
theorem test_memory_canonical :
    Memory.write [(0x10, 0x22)] 0x10 0x00 = [] ∧
      Memory.write [(0x10, 0x22)] 0x08 0x01 = [(0x08, 0x01), (0x10, 0x22)] ∧
      Memory.wf [(0x10, 0x22), (0x08, 0x01)] = false ∧ Memory.wf [(0x10, 0x00)] = false ∧
      Memory.wf [(0x10000, 0x01)] = false := by decide

/-- Refuse: the illegal byte 0x02 is refused by name; AsBRK: it enters through 0xFFFE (D4). -/
theorem test_illegal_policies :
    refusal (step (refusing (start .nmos6502 0x0200 [(0x0200, 0x02)]))) = some (.illegalOpcode 0x02) ∧
      sees [0x9000, 0x00, 0x80, 0x00, 0xFC, 0x24, 7] [(0x01FF, 0x02), (0x01FE, 0x02), (0x01FD, 0x34)]
        (step (start .nmos6502 0x0200 [(0x0200, 0x02), (0xFFFF, 0x90)])) = true := by decide

/-! ### Witnesses: what the hypotheses of each obligation ask for, met -/

/-- D = 0 in the start state. -/
theorem witness_AdcBinaryAddsWithCarry : (start .nmos6502 0x0200 []).p.d = false := by decide

/-- D = 0 in the start state. -/
theorem witness_SbcBinarySubtractsWithBorrow : (start .cmos65c02 0x0200 []).p.d = false := by decide

/-- D = 1, on both variants, with the default `decimalFlags` and with another. -/
theorem witness_AdcDecimalCorrectsNibbles :
    ∃ s t : State, s.p.d = true ∧ s.cfg.decimalFlags = .byRule ∧ t.p.d = true ∧
      t.cfg.decimalFlags ≠ .byRule ∧ t.cfg.variant ≠ s.cfg.variant :=
  ⟨{ start .nmos6502 0x0200 [] with p := .ofByte 0x2C },
   { start .cmos65c02 0x0200 [] with
     p := .ofByte 0x2C
     cfg := { Config.standard .cmos65c02 with decimalFlags := .other 0 } }, by decide⟩

/-- D = 1. -/
theorem witness_SbcDecimalCorrectsNibbles :
    ∃ s : State, s.p.d = true ∧ s.cfg.decimalFlags = .byRule :=
  ⟨{ start .nmos6502 0x0200 [] with p := .ofByte 0x2C }, by decide⟩

/-- 0x99 and 0x01, and 0x00 and 0x99, are valid BCD; 0x0A and 0xA0 are not. -/
theorem witness_DecimalModeIsDecimalArithmetic :
    (∃ s : State, s.p.d = true ∧ validBcd s.a ∧ validBcd 0x01 ∧ validBcd 0x00 ∧ validBcd 0x99) ∧
      ¬validBcd 0x0A ∧ ¬validBcd 0xA0 := by
  refine ⟨⟨{ start .nmos6502 0x0200 [] with
      a := 0x99
      p := .ofByte 0x2C }, ?_⟩, ?_, ?_⟩ <;> simp only [validBcd] <;> decide

/-- A state of each variant, and a pointer at the end of its page. -/
theorem witness_JmpGoesToItsTarget :
    (start .nmos6502 0x0200 []).cfg.variant = .nmos6502 ∧ (start .cmos65c02 0x0200 []).cfg.variant = .cmos65c02 ∧
      (0x30FF : Word).toNat % 256 = 255 := by decide

/-- AsBRK is the default. -/
theorem witness_IllegalOpcodesActAsBrk : (start .nmos6502 0x0200 []).cfg.illegalPolicy = .asBRK := by decide

/-- Refuse, a state that fetches, and an illegal byte at PC, in each variant. -/
theorem witness_RefusePolicyRefusesIllegalOpcodes :
    ∀ v ∈ bothVariants, ∃ s : State, s.cfg.variant = v ∧ s.cfg.illegalPolicy = .refuse ∧ s.fetches ∧
      s.peek s.pc ∈ illegalBytes s.cfg.variant := by
  intro v hv
  refine ⟨refusing (start v 0x0200 [(0x0200, 0x02)]), rfl, rfl, ⟨rfl, rfl, .inl rfl⟩, ?_⟩
  cases v <;> decide

/-- A state that fetches LDA #$42; also one whose masked IRQ is requested. -/
theorem witness_StepRunsDecodedInstruction :
    (∃ s : State, s.fetches ∧
      decodeBytes s.cfg.variant (s.peek s.pc) (s.peek (s.pc + 1)) (s.peek (s.pc + 2)) = .ldaImm 0x42) ∧
      ∃ s : State, s.fetches ∧ s.irqLine = true :=
  ⟨⟨start .nmos6502 0x0200 [(0x0200, 0xA9), (0x0201, 0x42)], ⟨rfl, rfl, .inl rfl⟩, by decide⟩,
   ⟨{ start .nmos6502 0x0200 [] with irqLine := true }, ⟨rfl, rfl, .inr rfl⟩, rfl⟩⟩

/-- Running with an NMI pending. -/
theorem witness_NmiEntryComesFirst : ∃ s : State, s.runState = .running ∧ s.nmiPending = true :=
  ⟨{ start .nmos6502 0x0200 [] with nmiPending := true }, by decide⟩

/-- Running, the IRQ line high, I = 0. -/
theorem witness_IrqEntryWhenUnmasked :
    ∃ s : State, s.runState = .running ∧ s.nmiPending = false ∧ s.irqLine = true ∧ s.p.i = false :=
  ⟨{ start .nmos6502 0x0200 [] with
     p := .ofByte 0x20
     irqLine := true }, by decide⟩

/-- Idle after power-on; Halted after a run. -/
theorem witness_OnlyRunningStatesStep :
    (State.powerOn (.standard .nmos6502)).runState ≠ .running ∧
      { State.reset with runState := .halted }.runState ≠ .running := by decide

/-- Well-formed instructions of each length in each variant, a fallback entry among them. -/
theorem witness_DecodeEncodeRoundTrip :
    Instr.nop.wellFormed .nmos6502 = true ∧ (Instr.ldaImm 0xFF).wellFormed .cmos65c02 = true ∧
      (Instr.jmpAbs 0xFFFF).wellFormed .nmos6502 = true ∧ (Instr.illNmos 0xFF).wellFormed .nmos6502 = true ∧
      (Instr.bbs7 0xFF 0x80).wellFormed .cmos65c02 = true := by decide

/-- A locked address and its unlocked neighbour. -/
theorem witness_ReadAndWriteEffects :
    ∃ s : State, s.isLocked 0xC000 = true ∧ s.isLocked 0xBFFF = false :=
  ⟨{ start .nmos6502 0x0200 [] with lock := [0xC000] }, by decide⟩

/-- An unlocked stack byte. -/
theorem witness_PushAndPopAreInverse : State.reset.isLocked (stackAt State.reset.sp) = false := by decide

/-- Images that fit and that do not, at the end of memory; an address inside, and one outside. -/
theorem witness_LoadImageStoresAndLocks :
    (0xFFFE : Word).toNat + [(1 : Byte), 2].length ≤ 65536 ∧ 65536 < (0xFFFF : Word).toNat + [(1 : Byte), 2].length ∧
      ((0xFFFE : Word).toNat ≤ (0xFFFF : Word).toNat ∧
        (0xFFFF : Word).toNat < (0xFFFE : Word).toNat + [(1 : Byte), 2].length) ∧
      ¬(0xFFFE : Word).toNat ≤ (0xFFFD : Word).toNat := by decide

/-- Running with `proceed` clear; Running with it set and a step that answers next; a run that finishes
(its second step is the last), and one whose schedule is used up. -/
theorem witness_RunEndsHaltedWhenProceedIsCleared :
    (∃ s : State, s.runState = .running ∧ s.proceed = false) ∧
      (∃ s t : State, s.runState = .running ∧ s.proceed = true ∧ step (s.emit .runStarting) = .next t) ∧
      (∃ s t : State, s.runState = .running ∧ s.hostRun [[], [.clearProceed]] = .finished t) ∧
      ∃ s t : State, s.runState = .running ∧ s.hostRun [[]] = .running t :=
  ⟨⟨{ State.reset with proceed := false }, by decide⟩,
   ⟨start .nmos6502 0x0200 [(0x0200, 0xEA)], _, rfl, rfl, rfl⟩,
   ⟨start .nmos6502 0x0200 [(0x0200, 0xEA), (0x0201, 0xEA)], _, rfl, rfl⟩,
   ⟨start .nmos6502 0x0200 [(0x0200, 0xEA)], _, rfl, rfl⟩⟩

/-- A state that fetches and steps. -/
theorem witness_EventsBracketTheInstruction : ∃ s t : State, s.fetches ∧ step s = .next t :=
  ⟨start .nmos6502 0x0200 [(0x0200, 0xEA)], _, ⟨rfl, rfl, .inl rfl⟩, rfl⟩

/-- A canonical state with a byte and a lock, and its step. -/
theorem witness_StepKeepsCanonicalForm :
    ∃ s t : State, s.wf = true ∧ s.mem ≠ [] ∧ s.lock ≠ [] ∧ step s = .next t :=
  ⟨{ start .nmos6502 0x0200 [(0x0200, 0x48)] with lock := [0x01FF] }, _, by decide, by decide, by decide, rfl⟩

/-- A canonical state. -/
theorem witness_ResetStateIsCanonical : (start .nmos6502 0x0200 [(0x0200, 0x48)]).wf = true := by decide

/-- A step that pushes onto a locked byte. -/
theorem witness_LockedBytesNeverChange : ∃ s t : State, step s = .next t ∧ s.isLocked 0x01FF = true :=
  ⟨{ start .nmos6502 0x0200 [(0x0200, 0x48)] with lock := [0x01FF] }, _, rfl, rfl⟩

/-- A step with an NMI pending, and one without. -/
theorem witness_HostOwnedStateIsKept :
    (∃ s t : State, step s = .next t ∧ s.nmiPending = true) ∧ ∃ s t : State, step s = .next t ∧ s.nmiPending = false :=
  ⟨⟨{ start .nmos6502 0x0200 [] with nmiPending := true }, _, rfl, rfl⟩,
   ⟨start .nmos6502 0x0200 [], _, rfl, rfl⟩⟩

/-- Running under AsBRK; Running under Refuse with a legal byte at PC. -/
theorem witness_RunningMachineNeverStops :
    (State.reset.runState = .running ∧ State.reset.cfg.illegalPolicy = .asBRK) ∧
      ∃ s : State, s.runState = .running ∧ s.cfg.illegalPolicy = .refuse ∧
        s.peek s.pc ∉ illegalBytes s.cfg.variant :=
  ⟨by decide, ⟨refusing (start .nmos6502 0x0200 [(0x0200, 0xEA)]), by decide⟩⟩

/-- Two states that differ in the cycle counter and the trace, and a step of the first. -/
theorem witness_TimingIsNotObservable :
    ∃ s s' t : State, s.agreesButTiming s' ∧ s ≠ s' ∧ step s = .next t :=
  ⟨start .nmos6502 0x0200 [(0x0200, 0xEA)],
   { start .nmos6502 0x0200 [(0x0200, 0xEA)] with
     cycles := 99
     trace := [.runStarting] }, _, rfl, by decide, rfl⟩

/-- An opcode of both variants; ADC, and JMP Indirect with pointer 0x30FE, executed on NMOS6502. -/
theorem witness_VariantsDifferOnlyWhereStated :
    (0xA9 : Byte) ∉ illegalBytes .nmos6502 ∧
      ∀ i ∈ [Instr.adcImm 0x01, Instr.jmpInd 0x30FE],
        i.legalIn .nmos6502 = true ∧ i.legalIn .cmos65c02 = true ∧ (∀ w, i = .jmpInd w → lowByte w ≠ 0xFF) ∧
          ∃ s t : State, s.cfg.decimalFlags = .byRule ∧ exec i (withVariant s .nmos6502) = .next t := by
  refine ⟨by decide, ?_⟩
  intro i hi
  simp only [List.mem_cons, List.not_mem_nil, or_false] at hi
  rcases hi with rfl | rfl
  · exact ⟨rfl, rfl, fun w h => (nomatch h), State.reset, _, rfl, rfl⟩
  · refine ⟨rfl, rfl, fun w h => ?_, State.reset, _, rfl, rfl⟩
    obtain rfl : (0x30FE : Word) = w := by injection h
    decide

end Sys2Proof.Tests
end

section
/-! SUPPORT. The round trip between P and its byte (R16, R19): bit by bit, from where each flag stands in the byte. -/

namespace Sys2Proof.Machine

/-- The layout of R16: bit `k` of the byte of P is the flag that R16 puts there. -/
theorem Status.getLsbD_toByte (p : Status) (k : Nat) :
    p.toByte.getLsbD k = [p.c, p.z, p.i, p.d, p.b, true, p.v, p.n].getD k false := by
  unfold Status.toByte
  iterate 7 rw [BitVec.getLsbD_append]
  match k with
  | 0 | 1 | 2 | 3 | 4 | 5 | 6 | 7 => simp
  | k + 8 => simp

/-- No flag stands at bit 5, so forcing that bit does not change the flags a byte gives. -/
theorem Status.ofByte_or_reserved (v : Byte) : Status.ofByte (v ||| 0x20) = Status.ofByte v := by
  simp [Status.ofByte]

/-- The byte of the flags of `v` is `v` with bit 5 forced to 1. -/
theorem Status.toByte_ofByte (v : Byte) : (Status.ofByte v).toByte = v ||| 0x20 := by
  apply BitVec.eq_of_getLsbD_eq
  intro k hk
  rw [Status.getLsbD_toByte]
  match k, hk with
  | 5, _ => simp
  | 0, _ | 1, _ | 2, _ | 3, _ | 4, _ | 6, _ | 7, _ => simp [Status.ofByte]

end Sys2Proof.Machine

namespace Sys2Proof.Proofs

open Sys2Proof.Machine

/-- Settles O1, from the byte of a byte's flags, the indifference of the flags to bit 5, and the model's own
`Status.ofByte_toByte`. -/
theorem statusByteRoundTrip : Obligations.StatusByteRoundTrip :=
  ⟨fun v => ⟨Status.toByte_ofByte v, Status.ofByte_or_reserved v⟩, Status.ofByte_toByte⟩

end Sys2Proof.Proofs
end

section
/-! SUPPORT. What `clear()` (R45) leaves to read: the empty memory and the empty lock mask. -/

namespace Sys2Proof.Machine

@[simp] theorem Memory.read_nil (a : Nat) : Memory.read [] a = 0x00 := rfl

@[simp] theorem LockMask.locked_nil (a : Nat) : LockMask.locked [] a = false := rfl

@[simp] theorem State.hostClear_peek (s : State) (a : Word) : s.hostClear.peek a = 0x00 := by
  simp [State.hostClear]

@[simp] theorem State.hostClear_isLocked (s : State) (a : Word) : s.hostClear.isLocked a = false := by
  simp [State.hostClear]

/-- The frame of `clear()`: it replaces memory and the lock mask and nothing else. -/
theorem State.hostClear_eq (s : State) : s.hostClear = { s with mem := [], lock := [] } := rfl

end Sys2Proof.Machine

namespace Sys2Proof.Proofs

open Sys2Proof.Machine

/-- Settles O50, from what each byte reads and whether it is locked after `clear()`, and its frame. -/
theorem clearZeroesAndUnlocks : Obligations.ClearZeroesAndUnlocks := fun s =>
  ⟨fun a => ⟨s.hostClear_peek a, s.hostClear_isLocked a⟩, s.hostClear_eq⟩

end Sys2Proof.Proofs
end

section
/-! SUPPORT. The stack address as the statements write it (R14), and the stack round trip of R131 and R132. -/

namespace Sys2Proof.Claims

open Sys2Proof.Machine

/-- The address of R14 computed on numbers is the one the model computes on words. -/
theorem stackAt_eq_stackAddr (sp : Byte) : stackAt sp = stackAddr sp := by
  apply BitVec.eq_of_toNat_eq
  simp [stackAt, stackAddr, zext]

end Sys2Proof.Claims

namespace Sys2Proof.Machine

/-- `Pop` after `Push` reads at the address that `Push` wrote: lowering S and raising it cancel modulo 256. -/
theorem State.popValue_push (s : State) (v : Byte) : (s.push v).popValue = (s.push v).peek (stackAddr s.sp) := by
  simp [State.popValue]

theorem State.popValue_push_unlocked {s : State} (v : Byte) (h : s.isLocked (stackAddr s.sp) = false) :
    (s.push v).popValue = v := by
  rw [State.popValue_push, State.push_peek, if_pos ⟨rfl, h⟩]

theorem State.popped_push_sp (s : State) (v : Byte) : (s.push v).popped.sp = s.sp := by
  simp

end Sys2Proof.Machine

namespace Sys2Proof.Proofs

open Sys2Proof.Machine Sys2Proof.Claims

/-- Settles O45: the rules of `push` and `popped` for S and for what a byte reads, and the round trip of an
unlocked stack byte, at the one stack address. -/
theorem pushAndPopAreInverse : Obligations.PushAndPopAreInverse := by
  intro s v
  simp only [stackAt_eq_stackAddr]
  exact ⟨s.push_sp v, s.push_peek v, s.popped_sp, rfl, s.popped_peek, s.popped_push_sp v,
    State.popValue_push_unlocked v⟩

end Sys2Proof.Proofs
end

section
/-! SUPPORT. How an executed instruction meets the shapes `Reads`, `Stores` and `Sets` in which the statements
speak: the accesses of an operand, the cycles of a row, and all six registers written at once. -/

namespace Sys2Proof.Claims

open Sys2Proof.Machine

/-! ### The statements' arithmetic is the model's -/

theorem nz_eq_setNZ (p : Status) (v : Byte) : nz p v = p.setNZ v := by
  have zero : decide (v.toNat = 0) = (v == 0) := by
    rw [Bool.eq_iff_iff]
    simp [BitVec.toNat_eq]
  rw [nz, Status.setNZ, zero, BitVec.msb_eq_getLsbD_last]

theorem otherPage_eq_pageDiffers (v w : Word) : otherPage v w = pageDiffers v w := by
  have page : ∀ u : Word, (highByte u).toNat = u.toNat / 256 := fun u => by
    simp [highByte, Nat.shiftRight_eq_div_pow]
    omega
  rw [otherPage, pageDiffers, ← page, ← page, Bool.eq_iff_iff]
  simp [BitVec.toNat_eq]

theorem zext_eq_ofNat (z : Byte) : zext z = BitVec.ofNat 16 z.toNat :=
  (BitVec.ofNat_toNat 16 z).symm

/-! ### The accesses of an operand (R126, R133) -/

/-- The reads of a mode's pointer bytes, newest first. -/
def pointerEvents (m : MemOperand) (s : State) : List Event := ((pointerAddresses m s).map (rd s)).reverse

theorem pointerReads_pointerEvents (m : MemOperand) (s : State) : PointerReads m s (pointerEvents m s) :=
  ⟨by simp [pointerEvents], fun e he => by
    obtain ⟨q, hq, rfl⟩ := List.mem_map.mp (List.mem_reverse.mp he)
    exact ⟨q, hq, rfl⟩⟩

theorem resolve_trace (s : State) (m : MemOperand) :
    (s.resolve m).trace = pointerEvents m s ++ s.trace := by
  cases m with
  | zp z | zpX z | zpY z | abs w | absX w | absY w => rfl
  | xInd z | indY z | zpInd z =>
    simp [State.resolve, pointerEvents, pointerAddresses, rd, zext_eq_ofNat, BitVec.toNat_add]

/-- The events of reading a value operand, newest first. -/
def sourceEvents : Source → State → List Event
  | .imm _, _ => []
  | .mem m, s => rd s (m.ea s) :: pointerEvents m s

theorem sourceAccesses_sourceEvents (src : Source) (s : State) :
    sourceAccesses src s (sourceEvents src s) := by
  cases src with
  | imm v => rfl
  | mem m => exact ⟨_, rfl, pointerReads_pointerEvents m s⟩

theorem noteSource_trace (s : State) (src : Source) :
    (s.noteSource src).trace = sourceEvents src s ++ s.trace := by
  cases src with
  | imm v => rfl
  | mem m => simp [State.noteSource, sourceEvents, resolve_trace, rd]

theorem write_trace (s : State) (a : Word) (v : Byte) : (s.write a v).trace = wr s a v :: s.trace := by
  obtain ⟨hl, hw⟩ | ⟨hl, hw⟩ := s.write_cases a v <;> simp [hw, wr, hl]

/-! ### The cycles of a row (R135) -/

/-- The operand of an instruction that reads its value from `src`. -/
def operandOf : Source → Operand
  | .imm v => .immediate v
  | .mem m => .mem m

theorem pagePenalty_eq {i : Instr} {src : Source} {s : State} {base : Nat} {plusP : Bool}
    (hop : i.operand = operandOf src) (hrow : i.cost s.cfg.variant = ⟨base, plusP⟩) :
    s.pagePenalty i = if plusP && crosses src s then 1 else 0 := by
  cases src with
  | imm v => simp [State.pagePenalty, hop, operandOf, crosses]
  | mem m =>
    simp [State.pagePenalty, hop, operandOf, crosses, hrow, MemOperand.crossed, otherPage_eq_pageDiffers]

theorem cost_eq_of_source {i : Instr} {src : Source} {s : State} {base : Nat} {plusP : Bool} (extra : Nat)
    (hop : i.operand = operandOf src) (hrow : i.cost s.cfg.variant = ⟨base, plusP⟩) :
    s.cost i extra =
      base + penalty s (plusP && crosses src s) + if s.cfg.penaltyCycles then extra else 0 := by
  cases hp : s.cfg.penaltyCycles <;>
    simp [State.cost, penalty, pagePenalty_eq hop hrow, hrow, hp, Nat.add_assoc]

theorem cost_eq_base {i : Instr} {s : State} {base : Nat} (hrow : i.cost s.cfg.variant = ⟨base, false⟩) :
    s.cost i 0 = base := by
  have hpage : s.pagePenalty i = 0 := by
    unfold State.pagePenalty
    split <;> simp [hrow]
  simp [State.cost, hpage, hrow]

/-! ### All registers at once -/

/-- The state with the six registers `r`. -/
def withRegs (s : State) (r : Regs) : State :=
  { s with a := r.a, x := r.x, y := r.y, sp := r.sp, pc := r.pc, p := r.p }

@[simp] theorem regsOf_withRegs (s : State) (r : Regs) : regsOf (withRegs s r) = r := rfl
@[simp] theorem withRegs_cfg (s : State) (r : Regs) : (withRegs s r).cfg = s.cfg := rfl
@[simp] theorem withRegs_cycles (s : State) (r : Regs) : (withRegs s r).cycles = s.cycles := rfl
@[simp] theorem withRegs_runState (s : State) (r : Regs) : (withRegs s r).runState = s.runState := rfl
@[simp] theorem withRegs_proceed (s : State) (r : Regs) : (withRegs s r).proceed = s.proceed := rfl
@[simp] theorem withRegs_irqLine (s : State) (r : Regs) : (withRegs s r).irqLine = s.irqLine := rfl
@[simp] theorem withRegs_nmiPending (s : State) (r : Regs) : (withRegs s r).nmiPending = s.nmiPending := rfl
@[simp] theorem withRegs_lock (s : State) (r : Regs) : (withRegs s r).lock = s.lock := rfl
@[simp] theorem withRegs_trace (s : State) (r : Regs) : (withRegs s r).trace = s.trace := rfl
@[simp] theorem withRegs_peek (s : State) (r : Regs) (b : Word) : (withRegs s r).peek b = s.peek b := rfl

theorem transferA_eq_withRegs (s : State) (v : Byte) :
    s.transferA v = withRegs s { regsOf s with a := v, p := nz s.p v } := by
  rw [nz_eq_setNZ]; rfl

theorem transferX_eq_withRegs (s : State) (v : Byte) :
    s.transferX v = withRegs s { regsOf s with x := v, p := nz s.p v } := by
  rw [nz_eq_setNZ]; rfl

theorem transferY_eq_withRegs (s : State) (v : Byte) :
    s.transferY v = withRegs s { regsOf s with y := v, p := nz s.p v } := by
  rw [nz_eq_setNZ]; rfl

@[simp] theorem regsOf_noteSource (s : State) (src : Source) : regsOf (s.noteSource src) = regsOf s := by
  simp [regsOf]

/-! ### The shapes of the statements, from what `exec` answers -/

theorem Completes.of_complete {i : Instr} {s t : State} {r : Regs} {extra cyc : Nat}
    {ev : List Event → Prop} {m : State → Prop} (hexec : exec i s = complete i extra s t)
    (hcost : s.cost i extra = cyc) (hregs : regsOf t = r) (hcycles : t.cycles = s.cycles)
    (hcontrol : SameControl s t) (hmem : m (t.tick cyc)) (hev : ∃ l, t.trace = l ++ s.trace ∧ ev l) :
    Completes i s r cyc ev m := by
  subst hcost
  exact ⟨_, hexec, hregs, by simp [hcycles], hcontrol, hmem, hev⟩

/-- An instruction that reads `src` and then only writes registers. -/
theorem Reads.of_withRegs {i : Instr} {src : Source} {op : Byte} {nmos plusP : Bool} {base extra added : Nat}
    {f : State → Byte → Regs} {s : State} (hcode : HasOpcode i op nmos)
    (hop : i.operand = operandOf src) (hrow : i.cost s.cfg.variant = ⟨base, plusP⟩)
    (hadded : (if s.cfg.penaltyCycles then extra else 0) = added)
    (hexec : exec i s = complete i extra s (withRegs (s.noteSource src) (f s (src.value s)))) :
    Reads op nmos i src base plusP f added s :=
  ⟨hcode, .of_complete hexec (by rw [cost_eq_of_source extra hop hrow, hadded]) (regsOf_withRegs _ _)
    (by simp) (by simp [SameControl]) (fun b => by simp)
    ⟨_, noteSource_trace s src, sourceAccesses_sourceEvents src s⟩⟩

/-- An instruction that stores `v` at the address of `m` and does nothing else. -/
theorem Stores.of_store {i : Instr} {m : MemOperand} {v op : Byte} {nmos : Bool} {base : Nat} {s : State}
    (hcode : HasOpcode i op nmos) (hrow : i.cost s.cfg.variant = ⟨base, false⟩)
    (hexec : exec i s = complete i 0 s (s.store m v)) : Stores op nmos i m v base s :=
  ⟨hcode, .of_complete hexec (cost_eq_base hrow) (by simp [State.store, regsOf]) (by simp [State.store])
    (by simp [State.store, SameControl]) (fun b => by simp [State.store, State.write_peek])
    ⟨wr s (m.ea s) v :: pointerEvents m s, by simp [State.store, write_trace, resolve_trace, wr], _, rfl,
      pointerReads_pointerEvents m s⟩⟩

/-- An instruction that only writes registers. -/
theorem Sets.of_withRegs {i : Instr} {op : Byte} {nmos : Bool} {r : Regs} {base : Nat} {s : State}
    (hcode : HasOpcode i op nmos) (hrow : i.cost s.cfg.variant = ⟨base, false⟩)
    (hexec : exec i s = complete i 0 s (withRegs s r)) : Sets op nmos i r base [] s :=
  ⟨hcode, .of_complete hexec (cost_eq_base hrow) (regsOf_withRegs _ _) rfl
    (by simp [SameControl]) (fun _ => rfl) ⟨[], rfl, rfl⟩⟩

end Sys2Proof.Claims
end

section
/-! SUPPORT. Loads, stores and transfers (R141 to R153). -/

namespace Sys2Proof.Proofs

open Sys2Proof.Machine Sys2Proof.Claims

/-! ### Loads: the operand is read, then one register and P are written -/

section
variable {i : Instr} {src : Source} {op : Byte} {nmos plusP : Bool} {base : Nat} {s : State}
  (hcode : HasOpcode i op nmos) (hop : i.operand = operandOf src)
  (hrow : i.cost s.cfg.variant = ⟨base, plusP⟩)
include hcode hop hrow

theorem reads_of_loadA (hexec : exec i s = complete i 0 s (s.loadA src)) :
    Reads op nmos i src base plusP (loads fun r m => { r with a := m }) 0 s :=
  .of_withRegs hcode hop hrow (ite_self 0) (by
    rw [hexec, State.loadA, transferA_eq_withRegs, regsOf_noteSource, State.noteSource_p, loads])

theorem reads_of_loadX (hexec : exec i s = complete i 0 s (s.loadX src)) :
    Reads op nmos i src base plusP (loads fun r m => { r with x := m }) 0 s :=
  .of_withRegs hcode hop hrow (ite_self 0) (by
    rw [hexec, State.loadX, transferX_eq_withRegs, regsOf_noteSource, State.noteSource_p, loads])

theorem reads_of_loadY (hexec : exec i s = complete i 0 s (s.loadY src)) :
    Reads op nmos i src base plusP (loads fun r m => { r with y := m }) 0 s :=
  .of_withRegs hcode hop hrow (ite_self 0) (by
    rw [hexec, State.loadY, transferY_eq_withRegs, regsOf_noteSource, State.noteSource_p, loads])

end

/-! ### Transfers: one register and P are written, TXS writes S alone -/

section
variable {i : Instr} {op v : Byte} {nmos : Bool} {base : Nat} {s : State}
  (hcode : HasOpcode i op nmos) (hrow : i.cost s.cfg.variant = ⟨base, false⟩)
include hcode hrow

theorem sets_of_transferA (hexec : exec i s = complete i 0 s (s.transferA v)) :
    Sets op nmos i { regsOf s with a := v, p := nz s.p v } base [] s :=
  .of_withRegs hcode hrow (by rw [hexec, transferA_eq_withRegs])

theorem sets_of_transferX (hexec : exec i s = complete i 0 s (s.transferX v)) :
    Sets op nmos i { regsOf s with x := v, p := nz s.p v } base [] s :=
  .of_withRegs hcode hrow (by rw [hexec, transferX_eq_withRegs])

theorem sets_of_transferY (hexec : exec i s = complete i 0 s (s.transferY v)) :
    Sets op nmos i { regsOf s with y := v, p := nz s.p v } base [] s :=
  .of_withRegs hcode hrow (by rw [hexec, transferY_eq_withRegs])

end

/-! ### The statements -/

/-- Settles O4: each form's row and arm, through `reads_of_loadA`. -/
theorem ldaLoadsAccumulator : Obligations.LdaLoadsAccumulator := by
  intro v z w s
  refine ⟨?_, ?_, ?_, ?_, ?_, ?_, ?_, ?_, ?_⟩ <;>
    exact reads_of_loadA ⟨rfl, rfl, rfl, rfl⟩ rfl rfl rfl

/-- Settles O5: each form's row and arm, through `reads_of_loadX` for LDX and `reads_of_loadY` for LDY. -/
theorem ldxLdyLoadIndexRegisters : Obligations.LdxLdyLoadIndexRegisters := by
  intro v z w s
  refine ⟨?_, ?_, ?_, ?_, ?_, ?_, ?_, ?_, ?_, ?_⟩
  iterate 5 exact reads_of_loadX ⟨rfl, rfl, rfl, rfl⟩ rfl rfl rfl
  iterate 5 exact reads_of_loadY ⟨rfl, rfl, rfl, rfl⟩ rfl rfl rfl

/-- Settles O6: each form's row and arm, through `Stores.of_store`. -/
theorem storesWriteRegister : Obligations.StoresWriteRegister := by
  intro z w s
  refine ⟨?_, ?_, ?_, ?_, ?_, ?_, ?_, ?_, ?_, ?_, ?_, ?_, ?_, ?_, ?_, ?_, ?_, ?_⟩ <;>
    exact .of_store ⟨rfl, rfl, rfl, rfl⟩ rfl rfl

/-- Settles O7: five transfers write a register with N and Z; TXS writes S alone. -/
theorem transfersCopyRegisters : Obligations.TransfersCopyRegisters := by
  intro s
  refine ⟨?tax, ?tay, ?txa, ?tya, ?tsx, ?txs⟩
  case tax | tsx => exact sets_of_transferX ⟨rfl, rfl, rfl, rfl⟩ rfl rfl
  case tay => exact sets_of_transferY ⟨rfl, rfl, rfl, rfl⟩ rfl rfl
  case txa | tya => exact sets_of_transferA ⟨rfl, rfl, rfl, rfl⟩ rfl rfl
  case txs => exact .of_withRegs ⟨rfl, rfl, rfl, rfl⟩ rfl rfl

end Sys2Proof.Proofs
end

section
/-! SUPPORT. The numbers of 42_arithmetic.md: a subtraction is the addition of the complement (R173), what V
says of the signed values (R174), and the byte plus or minus one (R184 to R189). -/

namespace Sys2Proof.Machine

/-! ### Subtraction is the addition of the complement -/

theorem subDiff_eq_addSum_not (a m : Byte) (c : Bool) : subDiff a m c = addSum a (~~~m) c - 256 := by
  have := m.isLt
  rw [subDiff, addSum, BitVec.toNat_not]
  omega

theorem subByte_eq_addByte_not (a m : Byte) (c : Bool) : subByte a m c = addByte a (~~~m) c := by
  apply BitVec.eq_of_toNat_eq
  rw [subByte, addByte, subDiff_eq_addSum_not, BitVec.toNat_ofInt, BitVec.toNat_ofNat]
  omega

theorem subCarry_eq_addCarry_not (a m : Byte) (c : Bool) : subCarry a m c = addCarry a (~~~m) c := by
  rw [subCarry, addCarry, subDiff_eq_addSum_not, decide_eq_decide]
  omega

theorem subOverflow_eq_addOverflow_not (a m : Byte) (c : Bool) :
    subOverflow a m c = addOverflow a (~~~m) c := by
  rw [subOverflow, addOverflow, subByte_eq_addByte_not, BitVec.not_xor_right, BitVec.not_not]

theorem Status.afterSub_eq_afterAdd_not (p : Status) (a m : Byte) :
    p.afterSub a m = p.afterAdd a (~~~m) := by
  rw [Status.afterSub, Status.afterAdd, subByte_eq_addByte_not, subCarry_eq_addCarry_not,
    subOverflow_eq_addOverflow_not]

/-! ### Overflow (R174) -/

/-- V of an addition: the operands agree in sign and the result does not. -/
theorem addOverflow_eq_signs (a m : Byte) (c : Bool) :
    addOverflow a m c = ((a.msb == m.msb) && ((addByte a m c).msb != a.msb)) := by
  rw [addOverflow, BitVec.msb_and, BitVec.msb_not, BitVec.msb_xor, BitVec.msb_xor]
  cases a.msb <;> cases m.msb <;> cases (addByte a m c).msb <;> rfl

/-- V of a subtraction: the operands differ in sign and the result differs from the first. -/
theorem subOverflow_eq_signs (a m : Byte) (c : Bool) :
    subOverflow a m c = ((a.msb != m.msb) && ((subByte a m c).msb != a.msb)) := by
  rw [subOverflow, BitVec.msb_and, BitVec.msb_xor, BitVec.msb_xor]
  cases a.msb <;> cases m.msb <;> cases (subByte a m c).msb <;> rfl

theorem addOverflow_eq_signed (a m : Byte) (c : Bool) :
    addOverflow a m c =
      decide (a.toInt + m.toInt + c.toNat < -128 ∨ 127 < a.toInt + m.toInt + c.toNat) := by
  have hc : c.toNat ≤ 1 := c.toNat_le
  have hs : (addByte a m c).toNat = (a.toNat + m.toNat + c.toNat) % 2 ^ 8 := BitVec.toNat_ofNat ..
  have := a.isLt
  have := m.isLt
  rw [addOverflow_eq_signs, Bool.eq_iff_iff]
  simp only [BitVec.msb_eq_toNat, BitVec.toInt_eq_toNat_cond, hs, Bool.and_eq_true, beq_iff_eq, bne_iff_ne,
    ne_eq, decide_eq_decide, decide_eq_true_eq]
  split <;> split <;> omega

/-- The signed difference is the signed sum with the complement, so the range is that of the addition. -/
theorem subOverflow_eq_signed (a m : Byte) (c : Bool) :
    subOverflow a m c =
      decide (a.toInt - m.toInt - (1 - c.toNat) < -128 ∨ 127 < a.toInt - m.toInt - (1 - c.toNat)) := by
  have hnot : (~~~m).toInt = -m.toInt - 1 := by
    have := m.isLt
    rw [BitVec.toInt_eq_toNat_cond, BitVec.toInt_eq_toNat_cond, BitVec.toNat_not]
    split <;> split <;> omega
  have hsum : a.toInt + (~~~m).toInt + c.toNat = a.toInt - m.toInt - (1 - c.toNat) := by
    rw [hnot]
    omega
  rw [subOverflow_eq_addOverflow_not, addOverflow_eq_signed, hsum]

/-! ### The byte plus or minus one -/

theorem add_one_eq_ofNat (v : Byte) : v + 1 = BitVec.ofNat 8 (v.toNat + 1) := by
  apply BitVec.eq_of_toNat_eq
  simp [BitVec.toNat_add]

theorem sub_one_eq_ofNat (v : Byte) : v - 1 = BitVec.ofNat 8 (v.toNat + 255) := by
  apply BitVec.eq_of_toNat_eq
  simp [BitVec.toNat_sub, Nat.add_comm]

end Sys2Proof.Machine
end

section
/-! SUPPORT. Arithmetic, compare, increment and decrement (R170 to R190): each shared operation as the
registers of its statement, and read-modify-write (R208) for every family. -/

namespace Sys2Proof.Claims

open Sys2Proof.Machine

/-! ### The registers of the statements are the model's -/

theorem addRegs_eq (s : State) (m : Byte) :
    addRegs s m = { regsOf s with a := addByte s.a m s.p.c, p := s.p.afterAdd s.a m } := by
  simp only [addRegs, nz_eq_setNZ]
  rfl

theorem subRegs_eq (s : State) (m : Byte) :
    subRegs s m = { regsOf s with a := subByte s.a m s.p.c, p := s.p.afterSub s.a m } := by
  simp only [subRegs, nz_eq_setNZ]
  rfl

/-- The difference is zero exactly when the register equals the operand (R183). -/
theorem cmpRegs_eq (r : State → Byte) (s : State) (m : Byte) :
    cmpRegs r s m = { regsOf s with p := s.p.compare (r s) m } := by
  have zero : decide (r s = m) = (r s - m == 0) := by
    rw [Bool.eq_iff_iff]
    simp [BitVec.sub_eq_iff_eq_add]
  rw [cmpRegs, nz_eq_setNZ, zero]
  rfl

/-! ### The operations as registers written after the operand is read -/

theorem adc_eq_withRegs {s : State} (src : Source) (hd : s.p.d = false) :
    s.adc src = withRegs (s.noteSource src) (addRegs s (src.value s)) := by
  rw [addRegs_eq, ← regsOf_noteSource s src, State.adc]
  simp only [hd, Bool.false_eq_true, if_false]
  rfl

theorem sbc_eq_withRegs {s : State} (src : Source) (hd : s.p.d = false) :
    s.sbc src = withRegs (s.noteSource src) (subRegs s (src.value s)) := by
  rw [subRegs_eq, ← regsOf_noteSource s src, State.sbc]
  simp only [hd, Bool.false_eq_true, if_false]
  rfl

theorem compareWith_eq_withRegs (s : State) (r : State → Byte) (src : Source) :
    s.compareWith (r s) src = withRegs (s.noteSource src) (cmpRegs r s (src.value s)) := by
  rw [cmpRegs_eq, ← regsOf_noteSource s src]
  rfl

theorem decimalPenalty_of_binary {s : State} (hd : s.p.d = false) : s.decimalPenalty = 0 := by
  simp [State.decimalPenalty, hd]

/-! ### Read-modify-write (R208) -/

/-- The reads of a place's pointer bytes, newest first; in Accumulator mode, none. -/
def placePointerEvents : Place → State → List Event
  | .acc, _ => []
  | .mem m, s => pointerEvents m s

theorem modify_mem_trace (s : State) (m : MemOperand) (f : Byte → Byte) (g : Status → Byte → Status) :
    (s.modify (.mem m) f g).trace =
      wr s (m.ea s) (f (s.peek (m.ea s))) :: rd s (m.ea s) :: pointerEvents m s ++ s.trace := by
  simp [State.modify, write_trace, noteSource_trace, sourceEvents, wr]

/-- An instruction that is one read-modify-write of a place reached without a pointer. -/
theorem Modifies.of_modify {i : Instr} {pl : Place} {f : Byte → Byte} {g : Status → Byte → Status}
    {op : Byte} {nmos : Bool} {cyc : Nat} {s : State} (hcode : HasOpcode i op nmos)
    (hcost : s.cost i 0 = cyc) (hptr : placePointerEvents pl s = [])
    (hexec : exec i s = complete i 0 s (s.modify pl f g)) : Modifies op nmos i pl f (g s.p) cyc s := by
  refine ⟨hcode, ?_⟩
  cases pl with
  | acc =>
    exact .of_complete hexec hcost rfl (by simp) (by simp [SameControl]) (fun b => by simp) ⟨[], rfl, rfl⟩
  | mem m =>
    exact .of_complete hexec hcost (by simp [regsOf]) (by simp) (by simp [SameControl])
      (fun b => by simp [State.modify_mem_peek])
      ⟨_, by rw [modify_mem_trace, show pointerEvents m s = [] from hptr], rfl⟩

end Sys2Proof.Claims

namespace Sys2Proof.Proofs

open Sys2Proof.Machine Sys2Proof.Claims

/-! ### ADC, SBC and the compares: the operand is read, then A and P or P alone are written -/

section
variable {i : Instr} {src : Source} {op : Byte} {nmos plusP : Bool} {base : Nat} {s : State}
  (hcode : HasOpcode i op nmos) (hop : i.operand = operandOf src)
  (hrow : i.cost s.cfg.variant = ⟨base, plusP⟩)
include hcode hop hrow

theorem reads_of_adc (hd : s.p.d = false)
    (hexec : exec i s = complete i s.decimalPenalty s (s.adc src)) :
    Reads op nmos i src base plusP addRegs 0 s :=
  .of_withRegs hcode hop hrow (ite_self 0) (by rw [hexec, adc_eq_withRegs src hd, decimalPenalty_of_binary hd])

theorem reads_of_sbc (hd : s.p.d = false)
    (hexec : exec i s = complete i s.decimalPenalty s (s.sbc src)) :
    Reads op nmos i src base plusP subRegs 0 s :=
  .of_withRegs hcode hop hrow (ite_self 0) (by rw [hexec, sbc_eq_withRegs src hd, decimalPenalty_of_binary hd])

theorem reads_of_compare {r : State → Byte}
    (hexec : exec i s = complete i 0 s (s.compareWith (r s) src)) :
    Reads op nmos i src base plusP (cmpRegs r) 0 s :=
  .of_withRegs hcode hop hrow (ite_self 0) (by rw [hexec, compareWith_eq_withRegs])

end

/-- The closing law of R173, for the immediate forms: both cost the same two cycles. -/
theorem exec_sbcImm_eq_adcImm (v : Byte) {s : State} (hd : s.p.d = false) :
    exec (.sbcImm v) s = exec (.adcImm (~~~v)) s := by
  have hregs : subRegs s v = addRegs s (~~~v) := by
    rw [subRegs_eq, addRegs_eq, subByte_eq_addByte_not, Status.afterSub_eq_afterAdd_not]
  have hcost : s.cost (.sbcImm v) s.decimalPenalty = s.cost (.adcImm (~~~v)) s.decimalPenalty := rfl
  calc exec (.sbcImm v) s
      = complete (.sbcImm v) s.decimalPenalty s (withRegs s (subRegs s v)) :=
        congrArg (complete (.sbcImm v) s.decimalPenalty s) (sbc_eq_withRegs (.imm v) hd)
    _ = complete (.adcImm (~~~v)) s.decimalPenalty s (withRegs s (addRegs s (~~~v))) := by
        rw [hregs, complete, complete, hcost]
    _ = exec (.adcImm (~~~v)) s :=
        congrArg (complete (.adcImm (~~~v)) s.decimalPenalty s) (adc_eq_withRegs (.imm (~~~v)) hd).symm

/-! ### INC and DEC -/

section
variable {i : Instr} {pl : Place} {op : Byte} {nmos : Bool} {base : Nat} {s : State}
  (hcode : HasOpcode i op nmos) (hrow : i.cost s.cfg.variant = ⟨base, false⟩)
  (hptr : placePointerEvents pl s = [])
include hcode hrow hptr

theorem modifies_of_inc (hexec : exec i s = complete i 0 s (s.inc pl)) :
    Modifies op nmos i pl (fun m => BitVec.ofNat 8 (m.toNat + 1))
      (fun m => nz s.p (BitVec.ofNat 8 (m.toNat + 1))) base s := by
  simp only [← add_one_eq_ofNat, nz_eq_setNZ]
  exact .of_modify hcode (cost_eq_base hrow) hptr hexec

theorem modifies_of_dec (hexec : exec i s = complete i 0 s (s.dec pl)) :
    Modifies op nmos i pl (fun m => BitVec.ofNat 8 (m.toNat + 255))
      (fun m => nz s.p (BitVec.ofNat 8 (m.toNat + 255))) base s := by
  simp only [← sub_one_eq_ofNat, nz_eq_setNZ]
  exact .of_modify hcode (cost_eq_base hrow) hptr hexec

end

/-! ### The statements -/

/-- Settles O8: each form's row and arm, through `reads_of_adc`. -/
theorem adcBinaryAddsWithCarry : Obligations.AdcBinaryAddsWithCarry := by
  intro v z w s hd
  refine ⟨?_, ?_, ?_, ?_, ?_, ?_, ?_, ?_, ?_⟩ <;>
    exact reads_of_adc ⟨rfl, rfl, rfl, rfl⟩ rfl rfl hd rfl

/-- Settles O9: each form's row and arm, through `reads_of_sbc`, and the closing law of R173. -/
theorem sbcBinarySubtractsWithBorrow : Obligations.SbcBinarySubtractsWithBorrow := by
  refine ⟨fun v z w s hd => ?forms, fun v s hd => ?law⟩
  case forms =>
    refine ⟨?_, ?_, ?_, ?_, ?_, ?_, ?_, ?_, ?_⟩ <;>
      exact reads_of_sbc ⟨rfl, rfl, rfl, rfl⟩ rfl rfl hd rfl
  case law =>
    have hnot : v ^^^ 0xFF = ~~~v := BitVec.xor_allOnes
    rw [hnot, exec_sbcImm_eq_adcImm v hd]

/-- Settles O13: the readings of V by signed value and by signs; the formulas of R174 are the definitions, since
the most significant bit of a byte is its bit 7. -/
theorem overflowIsLeavingTheSignedRange : Obligations.OverflowIsLeavingTheSignedRange := by
  intro a m c
  exact ⟨addOverflow_eq_signed a m c, addOverflow_eq_signs a m c, subOverflow_eq_signed a m c,
    subOverflow_eq_signs a m c, rfl, rfl, subOverflow_eq_addOverflow_not a m c⟩

/-- Settles O14: each form's row and arm, through `reads_of_compare`. -/
theorem comparesSetCarryZeroNegative : Obligations.ComparesSetCarryZeroNegative := by
  intro v z w s
  refine ⟨?_, ?_, ?_, ?_, ?_, ?_, ?_, ?_, ?_, ?_, ?_, ?_, ?_, ?_, ?_⟩ <;>
    exact reads_of_compare ⟨rfl, rfl, rfl, rfl⟩ rfl rfl rfl

/-- Settles O15: each form's row and arm, through `modifies_of_inc` for INC and `modifies_of_dec` for DEC. -/
theorem incDecModifyByte : Obligations.IncDecModifyByte := by
  intro z w s
  refine ⟨?_, ?_, ?_, ?_, ?_, ?_, ?_, ?_, ?_, ?_⟩
  iterate 5 exact modifies_of_inc ⟨rfl, rfl, rfl, rfl⟩ rfl rfl rfl
  iterate 5 exact modifies_of_dec ⟨rfl, rfl, rfl, rfl⟩ rfl rfl rfl

/-- Settles O16: the four counters are transfers of the register plus or minus one. -/
theorem indexRegistersCount : Obligations.IndexRegistersCount := by
  intro s
  simp only [← add_one_eq_ofNat, ← sub_one_eq_ofNat]
  refine ⟨?inx, ?iny, ?dex, ?dey⟩
  case inx | dex => exact sets_of_transferX ⟨rfl, rfl, rfl, rfl⟩ rfl rfl
  case iny | dey => exact sets_of_transferY ⟨rfl, rfl, rfl, rfl⟩ rfl rfl

end Sys2Proof.Proofs
end

section
/-! SUPPORT. The bytes of 43_logic_shift_bit.md as the statements compute them on numbers: the four results of
a shift or rotate (R204 to R207) and the mask of one bit (R211, R212). -/

namespace Sys2Proof.Machine

theorem aslByte_eq_ofNat (m : Byte) : aslByte m = BitVec.ofNat 8 (2 * m.toNat) := by
  apply BitVec.eq_of_toNat_eq
  simp [aslByte, Nat.shiftLeft_eq, Nat.mul_comm]

theorem lsrByte_eq_ofNat (m : Byte) : lsrByte m = BitVec.ofNat 8 (m.toNat / 2) := by
  apply BitVec.eq_of_toNat_eq
  have := m.isLt
  rw [lsrByte, BitVec.toNat_ushiftRight, Nat.shiftRight_eq_div_pow, BitVec.toNat_ofNat]
  omega

/-- Two parts side by side make the number `high * 2 ^ width of low + low`. -/
theorem toNat_append_eq_add {h l : Nat} (high : BitVec h) (low : BitVec l) :
    (high ++ low).toNat = high.toNat * 2 ^ l + low.toNat := by
  rw [BitVec.toNat_append, ← Nat.shiftLeft_add_eq_or_of_lt low.isLt, Nat.shiftLeft_eq]

theorem rolByte_eq_ofNat (c : Bool) (m : Byte) :
    rolByte c m = BitVec.ofNat 8 (2 * m.toNat + c.toNat) := by
  apply BitVec.eq_of_toNat_eq
  have hc : c.toNat ≤ 1 := c.toNat_le
  rw [rolByte, toNat_append_eq_add, BitVec.extractLsb'_toNat, BitVec.toNat_ofBool, BitVec.toNat_ofNat,
    Nat.shiftRight_zero]
  omega

theorem rorByte_eq_ofNat (c : Bool) (m : Byte) :
    rorByte c m = BitVec.ofNat 8 (128 * c.toNat + m.toNat / 2) := by
  apply BitVec.eq_of_toNat_eq
  have hc : c.toNat ≤ 1 := c.toNat_le
  have := m.isLt
  rw [rorByte, toNat_append_eq_add, BitVec.extractLsb'_toNat, BitVec.toNat_ofBool, BitVec.toNat_ofNat,
    Nat.shiftRight_eq_div_pow]
  omega

theorem bitMask_eq_ofNat (n : Nat) : bitMask n = BitVec.ofNat 8 (2 ^ n) := by
  apply BitVec.eq_of_toNat_eq
  simp [bitMask, Nat.shiftLeft_eq]

end Sys2Proof.Machine
end

section
/-! SUPPORT. Logic, shifts, rotates and bit manipulation (R200 to R212): each shared operation in the shape of
its statement, then the statements. -/

namespace Sys2Proof.Claims

open Sys2Proof.Machine

theorem logic_eq_withRegs (s : State) (f : Byte → Byte → Byte) (src : Source) :
    s.logic f src =
      withRegs (s.noteSource src) (loads (fun r b => { r with a := b }) s (f s.a (src.value s))) := by
  rw [State.logic, transferA_eq_withRegs, regsOf_noteSource, State.noteSource_p, loads]

/-- Z of BIT, TSB and TRB as the statements write it. -/
theorem testBits_eq (p : Status) (a m : Byte) :
    p.testBits a m = { p with z := decide (a &&& m = 0) } := rfl

theorem bit_eq_withRegs (s : State) (m : MemOperand) :
    s.bit m = withRegs (s.noteSource (.mem m))
      { regsOf s with p := s.p.bitTest s.a ((Source.mem m).value s) } := by
  rw [← regsOf_noteSource s (.mem m)]
  rfl

/-- AbsoluteX of the shifts and rotates is the one row whose cycles the variants tell apart (R76). -/
theorem cost_eq_absXShiftCycles {i : Instr} {w : Word} {s : State} (hop : i.operand = .mem (.absX w))
    (hnmos : i.cost .nmos6502 = ⟨7, false⟩) (hcmos : i.cost .cmos65c02 = ⟨6, true⟩) :
    s.cost i 0 = absXShiftCycles w s := by
  cases hv : s.cfg.variant with
  | nmos6502 => rw [absXShiftCycles, hv, cost_eq_base (by rw [hv, hnmos])]
  | cmos65c02 =>
    rw [absXShiftCycles, hv, cost_eq_of_source (src := .mem (.absX w)) 0 hop (by rw [hv, hcmos]),
      ite_self, Bool.true_and, Nat.add_zero]

end Sys2Proof.Claims

namespace Sys2Proof.Proofs

open Sys2Proof.Machine Sys2Proof.Claims

/-! ### Logic and BIT: the operand is read, then A and P or P alone are written -/

section
variable {i : Instr} {op : Byte} {nmos plusP : Bool} {base : Nat} {s : State}
  (hcode : HasOpcode i op nmos)
include hcode

theorem reads_of_logic {src : Source} {f : Byte → Byte → Byte} (hop : i.operand = operandOf src)
    (hrow : i.cost s.cfg.variant = ⟨base, plusP⟩)
    (hexec : exec i s = complete i 0 s (s.logic f src)) :
    Reads op nmos i src base plusP
      (fun s m => loads (fun r b => { r with a := b }) s (f s.a m)) 0 s :=
  .of_withRegs hcode hop hrow (ite_self 0) (by rw [hexec, logic_eq_withRegs])

theorem reads_of_bit {m : MemOperand} (hop : i.operand = .mem m)
    (hrow : i.cost s.cfg.variant = ⟨base, plusP⟩)
    (hexec : exec i s = complete i 0 s (s.bit m)) :
    Reads op nmos i (.mem m) base plusP
      (fun s m => { regsOf s with
        p := { s.p with z := decide (s.a &&& m = 0), n := m.getLsbD 7, v := m.getLsbD 6 } }) 0 s :=
  .of_withRegs hcode hop hrow (ite_self 0) (by rw [hexec, bit_eq_withRegs, Status.bitTest, testBits_eq])

/-- BIT Immediate leaves N and V (R203, D27). -/
theorem reads_of_bitImmediate {v : Byte} (hop : i.operand = .immediate v)
    (hrow : i.cost s.cfg.variant = ⟨base, plusP⟩)
    (hexec : exec i s = complete i 0 s (s.bitImmediate v)) :
    Reads op nmos i (.imm v) base plusP
      (fun s m => { regsOf s with p := { s.p with z := decide (s.a &&& m = 0) } }) 0 s :=
  .of_withRegs hcode hop hrow (ite_self 0) (by rw [hexec, State.bitImmediate, testBits_eq]; rfl)

end

/-! ### Shifts and rotates: C is the bit shifted out, N and Z follow the computed byte -/

section
variable {i : Instr} {pl : Place} {op : Byte} {nmos : Bool} {cyc : Nat} {s : State}
  (hcode : HasOpcode i op nmos) (hcost : s.cost i 0 = cyc) (hptr : placePointerEvents pl s = [])
include hcode hcost hptr

/-- `f` and `f'` are one result, as the model computes it on bits and the statement on numbers. -/
theorem modifies_of_shift {f f' : Byte → Byte} {out : Byte → Bool} (hresult : ∀ m, f m = f' m)
    (hexec : exec i s = complete i 0 s (s.modify pl f fun p m => p.afterShift (out m) (f m))) :
    Modifies op nmos i pl f' (fun m => { nz s.p (f' m) with c := out m }) cyc s := by
  obtain rfl : f = f' := funext hresult
  simp only [nz_eq_setNZ]
  exact .of_modify hcode hcost hptr hexec

theorem modifies_of_asl (hexec : exec i s = complete i 0 s (s.asl pl)) :
    Modifies op nmos i pl (fun m => BitVec.ofNat 8 (2 * m.toNat))
      (fun m => { nz s.p (BitVec.ofNat 8 (2 * m.toNat)) with c := m.getLsbD 7 }) cyc s :=
  modifies_of_shift hcode hcost hptr aslByte_eq_ofNat hexec

theorem modifies_of_lsr (hexec : exec i s = complete i 0 s (s.lsr pl)) :
    Modifies op nmos i pl (fun m => BitVec.ofNat 8 (m.toNat / 2))
      (fun m => { nz s.p (BitVec.ofNat 8 (m.toNat / 2)) with c := m.getLsbD 0 }) cyc s :=
  modifies_of_shift hcode hcost hptr lsrByte_eq_ofNat hexec

theorem modifies_of_rol (hexec : exec i s = complete i 0 s (s.rol pl)) :
    Modifies op nmos i pl (fun m => BitVec.ofNat 8 (2 * m.toNat + s.p.c.toNat))
      (fun m => { nz s.p (BitVec.ofNat 8 (2 * m.toNat + s.p.c.toNat)) with c := m.getLsbD 7 }) cyc s :=
  modifies_of_shift hcode hcost hptr (rolByte_eq_ofNat s.p.c) hexec

theorem modifies_of_ror (hexec : exec i s = complete i 0 s (s.ror pl)) :
    Modifies op nmos i pl (fun m => BitVec.ofNat 8 (128 * s.p.c.toNat + m.toNat / 2))
      (fun m => { nz s.p (BitVec.ofNat 8 (128 * s.p.c.toNat + m.toNat / 2)) with c := m.getLsbD 0 }) cyc s :=
  modifies_of_shift hcode hcost hptr (rorByte_eq_ofNat s.p.c) hexec

end

/-! ### TSB, TRB, RMBn and SMBn: Z follows the byte read, or no flag is written -/

section
variable {i : Instr} {m : MemOperand} {op : Byte} {nmos : Bool} {base : Nat} {s : State}
  (hcode : HasOpcode i op nmos) (hrow : i.cost s.cfg.variant = ⟨base, false⟩)
  (hptr : placePointerEvents (.mem m) s = [])
include hcode hrow hptr

theorem modifies_of_tsb (hexec : exec i s = complete i 0 s (s.tsb m)) :
    Modifies op nmos i (.mem m) (fun b => b ||| s.a)
      (fun b => { s.p with z := decide (s.a &&& b = 0) }) base s := by
  simp only [← testBits_eq]
  exact .of_modify hcode (cost_eq_base hrow) hptr hexec

theorem modifies_of_trb (hexec : exec i s = complete i 0 s (s.trb m)) :
    Modifies op nmos i (.mem m) (fun b => b &&& ~~~s.a)
      (fun b => { s.p with z := decide (s.a &&& b = 0) }) base s := by
  simp only [← testBits_eq]
  exact .of_modify hcode (cost_eq_base hrow) hptr hexec

theorem modifies_of_resetBit {n mask : Nat}
    (hexec : exec i s = complete i 0 s (s.modifyMem m (· &&& ~~~(bitMask n)))) (hmask : 2 ^ n = mask) :
    Modifies op nmos i (.mem m) (fun b => b &&& ~~~(BitVec.ofNat 8 mask)) (fun _ => s.p) base s := by
  simp only [← hmask, ← bitMask_eq_ofNat]
  exact .of_modify hcode (cost_eq_base hrow) hptr hexec

theorem modifies_of_setBit {n mask : Nat}
    (hexec : exec i s = complete i 0 s (s.modifyMem m (· ||| bitMask n))) (hmask : 2 ^ n = mask) :
    Modifies op nmos i (.mem m) (fun b => b ||| BitVec.ofNat 8 mask) (fun _ => s.p) base s := by
  simp only [← hmask, ← bitMask_eq_ofNat]
  exact .of_modify hcode (cost_eq_base hrow) hptr hexec

end

/-! ### The statements -/

/-- Settles O17: each form's row and arm, through `reads_of_logic`; nine forms of each operation. -/
theorem logicCombinesAccumulator : Obligations.LogicCombinesAccumulator := by
  intro v z w s
  refine ⟨?_, ?_, ?_, ?_, ?_, ?_, ?_, ?_, ?_,
    ?_, ?_, ?_, ?_, ?_, ?_, ?_, ?_, ?_,
    ?_, ?_, ?_, ?_, ?_, ?_, ?_, ?_, ?_⟩
  iterate 9 exact reads_of_logic (f := (· &&& ·)) ⟨rfl, rfl, rfl, rfl⟩ rfl rfl rfl
  iterate 9 exact reads_of_logic (f := (· ||| ·)) ⟨rfl, rfl, rfl, rfl⟩ rfl rfl rfl
  iterate 9 exact reads_of_logic (f := (· ^^^ ·)) ⟨rfl, rfl, rfl, rfl⟩ rfl rfl rfl

/-- Settles O18: the memory forms through `reads_of_bit`, Immediate through `reads_of_bitImmediate`. -/
theorem bitTestsBits : Obligations.BitTestsBits := by
  intro v z w s
  refine ⟨?zp, ?abs, ?zpX, ?absX, ?imm⟩
  case zp | abs | zpX | absX => exact reads_of_bit ⟨rfl, rfl, rfl, rfl⟩ rfl rfl rfl
  case imm => exact reads_of_bitImmediate ⟨rfl, rfl, rfl, rfl⟩ rfl rfl rfl

/-- Settles O19: each form's row and arm, through `modifies_of_asl` and `modifies_of_lsr`; AbsoluteX alone costs
by variant. -/
theorem shiftsMoveOneBit : Obligations.ShiftsMoveOneBit := by
  intro z w s
  refine ⟨?aslZp, ?aslAcc, ?aslAbs, ?aslZpX, ?aslAbsX, ?lsrZp, ?lsrAcc, ?lsrAbs, ?lsrZpX, ?lsrAbsX⟩
  case aslZp | aslAcc | aslAbs | aslZpX =>
    exact modifies_of_asl ⟨rfl, rfl, rfl, rfl⟩ (cost_eq_base rfl) rfl rfl
  case aslAbsX =>
    exact modifies_of_asl ⟨rfl, rfl, rfl, rfl⟩ (cost_eq_absXShiftCycles rfl rfl rfl) rfl rfl
  case lsrZp | lsrAcc | lsrAbs | lsrZpX =>
    exact modifies_of_lsr ⟨rfl, rfl, rfl, rfl⟩ (cost_eq_base rfl) rfl rfl
  case lsrAbsX =>
    exact modifies_of_lsr ⟨rfl, rfl, rfl, rfl⟩ (cost_eq_absXShiftCycles rfl rfl rfl) rfl rfl

/-- Settles O20: each form's row and arm, through `modifies_of_rol` and `modifies_of_ror`; AbsoluteX alone costs
by variant. -/
theorem rotatesGoThroughCarry : Obligations.RotatesGoThroughCarry := by
  intro z w s
  refine ⟨?rolZp, ?rolAcc, ?rolAbs, ?rolZpX, ?rolAbsX, ?rorZp, ?rorAcc, ?rorAbs, ?rorZpX, ?rorAbsX⟩
  case rolZp | rolAcc | rolAbs | rolZpX =>
    exact modifies_of_rol ⟨rfl, rfl, rfl, rfl⟩ (cost_eq_base rfl) rfl rfl
  case rolAbsX =>
    exact modifies_of_rol ⟨rfl, rfl, rfl, rfl⟩ (cost_eq_absXShiftCycles rfl rfl rfl) rfl rfl
  case rorZp | rorAcc | rorAbs | rorZpX =>
    exact modifies_of_ror ⟨rfl, rfl, rfl, rfl⟩ (cost_eq_base rfl) rfl rfl
  case rorAbsX =>
    exact modifies_of_ror ⟨rfl, rfl, rfl, rfl⟩ (cost_eq_absXShiftCycles rfl rfl rfl) rfl rfl

/-- Settles O21: each form's row and arm, through `modifies_of_tsb` and `modifies_of_trb`. -/
theorem tsbTrbTestAndModify : Obligations.TsbTrbTestAndModify := by
  intro z w s
  refine ⟨?tsbZp, ?tsbAbs, ?trbZp, ?trbAbs⟩
  case tsbZp | tsbAbs => exact modifies_of_tsb ⟨rfl, rfl, rfl, rfl⟩ rfl rfl rfl
  case trbZp | trbAbs => exact modifies_of_trb ⟨rfl, rfl, rfl, rfl⟩ rfl rfl rfl

/-- Settles O22: each instruction's row and arm, through `modifies_of_resetBit` and `modifies_of_setBit`, with
`n` from 0 to 7 in turn. -/
theorem rmbSmbChangeOneBit : Obligations.RmbSmbChangeOneBit := by
  intro z s
  refine ⟨?_, ?_, ?_, ?_, ?_, ?_, ?_, ?_,
    ?_, ?_, ?_, ?_, ?_, ?_, ?_, ?_⟩
  iterate 8 exact modifies_of_resetBit ⟨rfl, rfl, rfl, rfl⟩ rfl rfl rfl rfl
  iterate 8 exact modifies_of_setBit ⟨rfl, rfl, rfl, rfl⟩ rfl rfl rfl rfl

end Sys2Proof.Proofs
end

section
/-! SUPPORT. The numbers of 44_branch_jump.md as the statements write them: the target of a branch (R121, R122),
the two bytes of an address and the word of two bytes. -/

namespace Sys2Proof.Machine

theorem highByte_eq_ofNat (w : Word) : highByte w = BitVec.ofNat 8 (w.toNat / 256) := by
  apply BitVec.eq_of_toNat_eq
  simp [highByte, Nat.shiftRight_eq_div_pow]

theorem lowByte_eq_ofNat (w : Word) : lowByte w = BitVec.ofNat 8 w.toNat := by
  apply BitVec.eq_of_toNat_eq
  simp [lowByte]

theorem joinBytes_eq_ofNat (hi lo : Byte) :
    joinBytes hi lo = BitVec.ofNat 16 (256 * hi.toNat + lo.toNat) := by
  apply BitVec.eq_of_toNat_eq
  have := hi.isLt
  have := lo.isLt
  rw [joinBytes, toNat_append_eq_add, BitVec.toNat_ofNat]
  omega

end Sys2Proof.Machine

namespace Sys2Proof.Claims

open Sys2Proof.Machine

/-- The signed sum reduced modulo 65536 is the sum with the sign-extended displacement. -/
theorem target_eq_branchTarget (s : State) (d : Byte) : target s d = s.branchTarget d := by
  rw [target, BitVec.ofInt_add, BitVec.ofInt_natCast, BitVec.ofNat_toNat, BitVec.setWidth_eq]
  rfl

end Sys2Proof.Claims
end

section
/-! SUPPORT. Two bytes on the stack (R131, R132): what the statements' `PushesTwo` and their events say of `push`
done twice. -/

namespace Sys2Proof.Claims

open Sys2Proof.Machine

/-- The byte below the top of the stack is another byte, also where S wraps. -/
theorem stackAt_sub_one_ne (sp : Byte) : stackAt (sp - 1) ≠ stackAt sp := by
  intro h
  have hnat := congrArg BitVec.toNat h
  have := sp.isLt
  simp only [stackAt, BitVec.ofNat_eq_ofNat, BitVec.toNat_ofNat, BitVec.toNat_sub] at hnat
  omega

theorem push_trace (s : State) (v : Byte) : (s.push v).trace = wr s (stackAt s.sp) v :: s.trace := by
  rw [stackAt_eq_stackAddr, State.push, State.withSp_trace, write_trace]

theorem push_push_trace (s : State) (hi lo : Byte) :
    ((s.push hi).push lo).trace =
      [wr s (stackAt (s.sp - 1)) lo, wr s (stackAt s.sp) hi] ++ s.trace := by
  simp [push_trace, wr]

/-- What a byte reads after a push, with the lock asked first, as `PushesTwo` does. -/
theorem push_peek_eq (s : State) (v : Byte) (b : Word) :
    (s.push v).peek b =
      if s.isLocked b then s.peek b else if b = stackAt s.sp then v else s.peek b := by
  rw [State.push_peek, ← stackAt_eq_stackAddr]
  by_cases hb : b = stackAt s.sp
  · rw [hb]
    cases s.isLocked (stackAt s.sp) <;> simp
  · simp [hb]

/-- The second push cannot overwrite the first, since the two bytes differ. -/
theorem pushesTwo_push_push (s : State) (hi lo : Byte) : PushesTwo hi lo s ((s.push hi).push lo) := by
  intro b
  simp only [push_peek_eq, State.push_sp, State.push_isLocked]
  by_cases hb : b = stackAt s.sp
  · rw [hb, if_neg (stackAt_sub_one_ne s.sp).symm]
    cases s.isLocked (stackAt s.sp) <;> simp
  · simp [hb]

end Sys2Proof.Claims
end

section
/-! SUPPORT. Branches and subroutines (R240 to R251, R253, R254): each shared operation as a state that emits
its accesses and writes registers, with the cycles of its family, then the statements. -/

namespace Sys2Proof.Claims

open Sys2Proof.Machine

/-- The penalties of a family come on top of the base cycles of a row without the `+p` mark. -/
theorem cost_eq_base_add {i : Instr} {s : State} {base : Nat} (extra : Nat)
    (hrow : i.cost s.cfg.variant = ⟨base, false⟩) :
    s.cost i extra = base + if s.cfg.penaltyCycles then extra else 0 := by
  rw [← cost_eq_base hrow]
  cases hp : s.cfg.penaltyCycles <;> simp [State.cost, hp, Nat.add_assoc]

/-- The cycle for leaving the page, as the statements count it (R125, R135). -/
theorem penalty_otherPage_eq (s : State) (d : Byte) :
    penalty s (otherPage (target s d) s.pc) = if s.cfg.penaltyCycles then s.branchCrossing d else 0 := by
  rw [penalty, otherPage_eq_pageDiffers, target_eq_branchTarget, State.branchCrossing]
  cases s.cfg.penaltyCycles <;> simp

/-- The cycles of a taken branch: one for being taken, one for leaving the page (R135 (b)). -/
theorem cost_eq_of_taken {i : Instr} {s : State} {base : Nat} (d : Byte)
    (hrow : i.cost s.cfg.variant = ⟨base, false⟩) :
    s.cost i (1 + s.branchCrossing d) =
      base + penalty s true + penalty s (otherPage (target s d) s.pc) := by
  rw [cost_eq_base_add _ hrow, penalty_otherPage_eq]
  cases hp : s.cfg.penaltyCycles <;> simp [penalty, hp, Nat.add_assoc]

/-- The state after the events `l`, newest first. -/
def withEvents (s : State) (l : List Event) : State := { s with trace := l ++ s.trace }

/-- An instruction that emits the events `l` and only writes registers. -/
theorem Sets.of_withEvents {i : Instr} {op : Byte} {nmos : Bool} {r : Regs} {extra cyc : Nat}
    {l : List Event} {s : State} (hcode : HasOpcode i op nmos) (hcost : s.cost i extra = cyc)
    (hexec : exec i s = complete i extra s (withRegs (withEvents s l) r)) : Sets op nmos i r cyc l s :=
  ⟨hcode, .of_complete hexec hcost (regsOf_withRegs _ _) rfl ⟨rfl, rfl, rfl, rfl, rfl, rfl⟩
    (fun _ => rfl) ⟨l, rfl, rfl⟩⟩

end Sys2Proof.Claims

namespace Sys2Proof.Proofs

open Sys2Proof.Machine Sys2Proof.Claims

/-! ### Branches -/

section
variable {i : Instr} {op : Byte} {nmos : Bool} {base : Nat} {d : Byte} {s : State}
  (hcode : HasOpcode i op nmos) (hrow : i.cost s.cfg.variant = ⟨base, false⟩)
include hcode hrow

/-- Both kinds of conditional branch: the accesses `l`, then the target if `cond`. -/
theorem branches_of_ite {cond : Bool} {l : List Event}
    (hexec : exec i s =
      if cond then complete i (1 + s.branchCrossing d) s ((withEvents s l).withPc (s.branchTarget d))
      else complete i 0 s (withEvents s l)) :
    Branches op nmos i cond d base l s := by
  cases cond with
  | true =>
    refine Sets.of_withEvents hcode (cost_eq_of_taken d hrow) ?_
    rw [hexec, if_pos rfl, if_pos rfl, target_eq_branchTarget]
    rfl
  | false => exact Sets.of_withEvents hcode (by simp [cost_eq_base hrow, penalty]) hexec

theorem branches_of_branch {cond : Bool} (hexec : exec i s = State.branch i cond d s) :
    Branches op nmos i cond d base [] s :=
  branches_of_ite hcode hrow hexec

theorem branches_of_bitBranch {z : Byte} {n : Nat} {want cond : Bool}
    (hexec : exec i s = State.bitBranch i z n want d s)
    (hcond : ((s.peek (BitVec.ofNat 16 z.toNat)).getLsbD n == want) = cond) :
    Branches op nmos i cond d base [rd s (BitVec.ofNat 16 z.toNat)] s := by
  subst hcond
  rw [← zext_eq_ofNat]
  exact branches_of_ite hcode hrow hexec

/-- BRA has no cycle for being taken (R135 (c)). -/
theorem sets_of_branchAlways (hexec : exec i s = State.branchAlways i d s) :
    Sets op nmos i { regsOf s with pc := target s d }
      (base + penalty s (otherPage (target s d) s.pc)) [] s := by
  rw [penalty_otherPage_eq, target_eq_branchTarget]
  exact .of_withEvents hcode (cost_eq_base_add _ hrow) hexec

end

/-! ### The stack of return addresses -/

/-- The word pulled is that of the two bytes above S, and RTS adds one to it. -/
theorem returnFromSubroutine_eq (s : State) :
    s.returnFromSubroutine =
      withRegs (withEvents s [rd s (stackAt (s.sp + 2)), rd s (stackAt (s.sp + 1))]) { regsOf s with
        sp := s.sp + 2
        pc := BitVec.ofNat 16 (256 * (s.peek (stackAt (s.sp + 2))).toNat +
          (s.peek (stackAt (s.sp + 1))).toNat + 1) } := by
  have htwo : s.sp + 1 + 1 = s.sp + 2 := BitVec.add_assoc s.sp 1 1
  rw [BitVec.ofNat_add, ← joinBytes_eq_ofNat, stackAt_eq_stackAddr, stackAt_eq_stackAddr, ← htwo]
  rfl

/-! ### The statements -/

/-- Settles O23: each conditional branch through `branches_of_branch`, BRA through `sets_of_branchAlways`. -/
theorem relativeBranchesGoToTarget : Obligations.RelativeBranchesGoToTarget := by
  intro d s
  refine ⟨?_, ?_, ?_, ?_, ?_, ?_, ?_, ?_, ?bra⟩
  case bra => exact sets_of_branchAlways ⟨rfl, rfl, rfl, rfl⟩ rfl rfl
  all_goals exact branches_of_branch ⟨rfl, rfl, rfl, rfl⟩ rfl rfl

/-- Settles O24: BBR0 to BBR7 branch if the bit is false, BBS0 to BBS7 if it is true. -/
theorem bitBranchesTestZeroPage : Obligations.BitBranchesTestZeroPage := by
  intro z d s
  refine ⟨?_, ?_, ?_, ?_, ?_, ?_, ?_, ?_,
    ?_, ?_, ?_, ?_, ?_, ?_, ?_, ?_⟩
  iterate 8 exact branches_of_bitBranch ⟨rfl, rfl, rfl, rfl⟩ rfl rfl (beq_false _)
  iterate 8 exact branches_of_bitBranch ⟨rfl, rfl, rfl, rfl⟩ rfl rfl (beq_true _)

/-- Settles O26: two pushes, whose bytes and events are those of `PushesTwo`, then the jump. -/
theorem jsrPushesReturnAddress : Obligations.JsrPushesReturnAddress := by
  intro w s
  simp only [← highByte_eq_ofNat, ← lowByte_eq_ofNat]
  exact ⟨⟨rfl, rfl, rfl, rfl⟩, .of_complete (t := s.callSubroutine w) rfl (cost_eq_base rfl)
    (by simp [State.callSubroutine, regsOf, BitVec.sub_sub]) (by simp [State.callSubroutine])
    (by simp [State.callSubroutine, SameControl]) (pushesTwo_push_push s _ _)
    ⟨_, push_push_trace s _ _, rfl⟩⟩

/-- Settles O27: RTS reads two bytes and writes S and PC. -/
theorem rtsReturnsPastPulledAddress : Obligations.RtsReturnsPastPulledAddress := fun s =>
  .of_withEvents ⟨rfl, rfl, rfl, rfl⟩ (cost_eq_base rfl)
    (congrArg (complete .rts 0 s) (returnFromSubroutine_eq s))

end Sys2Proof.Proofs
end

section
/-! SUPPORT. Stack, flag and system instructions (R270 to R290, R293): a push as `Pushes`, a pull as a read
and a write of registers, what RTI leaves in the registers and in the trace, then the statements. -/

namespace Sys2Proof.Claims

open Sys2Proof.Machine

/-- An instruction that pushes `v` and does nothing else. -/
theorem Pushes.of_push {i : Instr} {op v : Byte} {nmos : Bool} {s : State} (hcode : HasOpcode i op nmos)
    (hrow : i.cost s.cfg.variant = ⟨3, false⟩) (hexec : exec i s = complete i 0 s (s.push v)) :
    Pushes op nmos i v s :=
  ⟨hcode, .of_complete hexec (cost_eq_base hrow) (by simp [regsOf]) (s.push_cycles v)
    (by simp [SameControl]) (by rw [stackAt_eq_stackAddr]; exact s.push_peek v)
    ⟨_, push_trace s v, rfl⟩⟩

theorem popValue_eq_peek (s : State) : s.popValue = s.peek (stackAt (s.sp + 1)) := by
  rw [stackAt_eq_stackAddr, State.popValue]

/-- An instruction that pulls one byte and then only writes registers. -/
theorem Sets.of_popped {i : Instr} {op : Byte} {nmos : Bool} {r : Regs} {base : Nat} {s : State}
    (hcode : HasOpcode i op nmos) (hrow : i.cost s.cfg.variant = ⟨base, false⟩)
    (hexec : exec i s = complete i 0 s (withRegs s.popped r)) :
    Sets op nmos i r base [rd s (stackAt (s.sp + 1))] s := by
  rw [stackAt_eq_stackAddr]
  exact .of_withEvents hcode (cost_eq_base hrow) hexec

end Sys2Proof.Claims

namespace Sys2Proof.Proofs

open Sys2Proof.Machine Sys2Proof.Claims

/-! ### The return from an interrupt -/

/-- P is the first byte above S, PC the word of the next two as it stands. -/
theorem regsOf_returnFromInterrupt (s : State) :
    regsOf s.returnFromInterrupt = { regsOf s with
      sp := s.sp + 3
      p := Status.ofByte (s.peek (stackAt (s.sp + 1)))
      pc := BitVec.ofNat 16 (256 * (s.peek (stackAt (s.sp + 3))).toNat +
        (s.peek (stackAt (s.sp + 2))).toNat) } := by
  have hpc : s.returnFromInterrupt.pc =
      joinBytes (s.peek (stackAt (s.sp + 3))) (s.peek (stackAt (s.sp + 2))) := by
    simp [State.returnFromInterrupt, popValue_eq_peek, BitVec.add_assoc]
  simp [regsOf, hpc, joinBytes_eq_ofNat, popValue_eq_peek, BitVec.add_assoc]

theorem returnFromInterrupt_trace (s : State) :
    s.returnFromInterrupt.trace =
      [rd s (stackAt (s.sp + 3)), rd s (stackAt (s.sp + 2)), rd s (stackAt (s.sp + 1))] ++ s.trace := by
  simp [State.returnFromInterrupt, rd, popValue_eq_peek, ← stackAt_eq_stackAddr, BitVec.add_assoc]

/-! ### The statements -/

/-- Settles O33: RTI reads three bytes and writes S, P and PC; the status read is the pulled byte with Reserved
set, by `Status.toByte_ofByte`. -/
theorem rtiRestoresStatusAndPc : Obligations.RtiRestoresStatusAndPc := fun s =>
  ⟨Status.ofByte (s.peek (stackAt (s.sp + 1))), Status.toByte_ofByte _, ⟨rfl, rfl, rfl, rfl⟩,
    .of_complete (t := s.returnFromInterrupt) rfl (cost_eq_base rfl) (regsOf_returnFromInterrupt s)
      s.returnFromInterrupt_cycles (by simp [SameControl]) s.returnFromInterrupt_peek
      ⟨_, returnFromInterrupt_trace s, rfl⟩⟩

/-- Settles O28: three pushes of a register; three pulls, each a transfer of the pulled byte. -/
theorem pushAndPullMoveRegisters : Obligations.PushAndPullMoveRegisters := by
  intro s
  simp only [← popValue_eq_peek]
  refine ⟨?pha, ?phx, ?phy, ?pla, ?plx, ?ply⟩
  case pha | phx | phy => exact .of_push ⟨rfl, rfl, rfl, rfl⟩ rfl rfl
  case pla =>
    exact .of_popped ⟨rfl, rfl, rfl, rfl⟩ rfl (congrArg (complete .pla 0 s) (transferA_eq_withRegs _ _))
  case plx =>
    exact .of_popped ⟨rfl, rfl, rfl, rfl⟩ rfl (congrArg (complete .plx 0 s) (transferX_eq_withRegs _ _))
  case ply =>
    exact .of_popped ⟨rfl, rfl, rfl, rfl⟩ rfl (congrArg (complete .ply 0 s) (transferY_eq_withRegs _ _))

/-- Settles O30: each of the seven writes P alone. -/
theorem flagInstructionsChangeOneFlag : Obligations.FlagInstructionsChangeOneFlag := by
  intro s
  refine ⟨?clc, ?sec, ?cli, ?sei, ?clv, ?cld, ?sed⟩ <;>
    exact .of_withRegs ⟨rfl, rfl, rfl, rfl⟩ rfl rfl

/-- Settles O31: NOP writes back the registers it found. -/
theorem nopDoesNothing : Obligations.NopDoesNothing := fun _ =>
  .of_withRegs ⟨rfl, rfl, rfl, rfl⟩ rfl rfl

end Sys2Proof.Proofs
end

section
/-! SUPPORT. What a machine did before influences nothing (R31, R370): a state with `n` more cycles and the events
`l` before its own runs as the state without them, and keeps both. Here every shared operation is shown to
commute with adding that past, `State.withPast`. -/

namespace Sys2Proof.Machine

/-- `s` on a machine that had counted `n` cycles and emitted the events `l` (newest first) before those of `s`. -/
def State.withPast (s : State) (n : BitVec 64) (l : List Event) : State :=
  { s with cycles := n + s.cycles, trace := s.trace ++ l }

/-- `State.withPast` of the next state, where an outcome has one. -/
def outWithPast (n : BitVec 64) (l : List Event) : Out → Out
  | .next t => .next (t.withPast n l)
  | .fault f => .fault f
  | .refused r => .refused r

theorem outWithPast_eq_next {n : BitVec 64} {l : List Event} {o : Out} {t : State}
    (h : outWithPast n l o = .next t) : ∃ u, o = .next u ∧ u.withPast n l = t := by
  cases o with
  | next u => exact ⟨u, rfl, Host.Outcome.next.inj h⟩
  | fault f => nomatch f
  | refused r => nomatch h

/-! ### The building blocks -/

section
variable (s : State) (n : BitVec 64) (l : List Event)

@[simp] theorem State.withPast_cfg : (s.withPast n l).cfg = s.cfg := rfl
@[simp] theorem State.withPast_pc : (s.withPast n l).pc = s.pc := rfl
@[simp] theorem State.withPast_a : (s.withPast n l).a = s.a := rfl
@[simp] theorem State.withPast_x : (s.withPast n l).x = s.x := rfl
@[simp] theorem State.withPast_y : (s.withPast n l).y = s.y := rfl
@[simp] theorem State.withPast_sp : (s.withPast n l).sp = s.sp := rfl
@[simp] theorem State.withPast_p : (s.withPast n l).p = s.p := rfl
@[simp] theorem State.withPast_runState : (s.withPast n l).runState = s.runState := rfl
@[simp] theorem State.withPast_irqLine : (s.withPast n l).irqLine = s.irqLine := rfl
@[simp] theorem State.withPast_nmiPending : (s.withPast n l).nmiPending = s.nmiPending := rfl
@[simp] theorem State.withPast_mem : (s.withPast n l).mem = s.mem := rfl
@[simp] theorem State.withPast_peek (b : Word) : (s.withPast n l).peek b = s.peek b := rfl
@[simp] theorem State.withPast_isLocked (b : Word) : (s.withPast n l).isLocked b = s.isLocked b := rfl

@[simp] theorem State.withA_withPast (v : Byte) : (s.withPast n l).withA v = (s.withA v).withPast n l := rfl
@[simp] theorem State.withX_withPast (v : Byte) : (s.withPast n l).withX v = (s.withX v).withPast n l := rfl
@[simp] theorem State.withY_withPast (v : Byte) : (s.withPast n l).withY v = (s.withY v).withPast n l := rfl
@[simp] theorem State.withSp_withPast (v : Byte) : (s.withPast n l).withSp v = (s.withSp v).withPast n l := rfl
@[simp] theorem State.withP_withPast (q : Status) : (s.withPast n l).withP q = (s.withP q).withPast n l := rfl
@[simp] theorem State.withPc_withPast (w : Word) : (s.withPast n l).withPc w = (s.withPc w).withPast n l := rfl
@[simp] theorem State.withMem_withPast (m : Memory) :
    (s.withPast n l).withMem m = (s.withMem m).withPast n l := rfl
@[simp] theorem State.withNmiPending_withPast (b : Bool) :
    (s.withPast n l).withNmiPending b = (s.withNmiPending b).withPast n l := rfl
@[simp] theorem State.emit_withPast (e : Event) : (s.withPast n l).emit e = (s.emit e).withPast n l := rfl
@[simp] theorem State.noteRead_withPast (a : Word) :
    (s.withPast n l).noteRead a = (s.noteRead a).withPast n l := rfl

/-- Cycles are added, never looked at: the one fact about the counter that the whole section needs. -/
@[simp] theorem State.tick_withPast (k : Nat) : (s.withPast n l).tick k = (s.tick k).withPast n l :=
  congrArg (s.withPast n l).withCycles (BitVec.add_assoc n s.cycles _)

@[simp] theorem State.write_withPast (a : Word) (v : Byte) :
    (s.withPast n l).write a v = (s.write a v).withPast n l := by
  cases h : s.isLocked a <;> simp [State.write, h]

@[simp] theorem State.push_withPast (v : Byte) : (s.withPast n l).push v = (s.push v).withPast n l := by
  simp [State.push]

@[simp] theorem State.interrupt_withPast (vec : Word) (b : Bool) :
    (s.withPast n l).interrupt vec b = (s.interrupt vec b).withPast n l := by
  simp [State.interrupt, State.noteReadWord, State.peekWord]

@[simp] theorem State.popped_withPast : (s.withPast n l).popped = s.popped.withPast n l := rfl
@[simp] theorem State.popValue_withPast : (s.withPast n l).popValue = s.popValue := rfl

/-! ### Operands -/

@[simp] theorem ea_withPast (m : MemOperand) : m.ea (s.withPast n l) = m.ea s := by
  cases m <;> rfl

@[simp] theorem value_withPast (src : Source) : src.value (s.withPast n l) = src.value s := by
  cases src <;> simp [Source.value]

@[simp] theorem State.resolve_withPast (m : MemOperand) :
    (s.withPast n l).resolve m = (s.resolve m).withPast n l := by
  cases m <;> rfl

@[simp] theorem State.noteSource_withPast (src : Source) :
    (s.withPast n l).noteSource src = (s.noteSource src).withPast n l := by
  cases src <;> simp [State.noteSource]

@[simp] theorem State.modify_withPast (pl : Place) (f : Byte → Byte) (g : Status → Byte → Status) :
    (s.withPast n l).modify pl f g = (s.modify pl f g).withPast n l := by
  cases pl <;> simp [State.modify]

theorem State.store_withPast (m : MemOperand) (v : Byte) :
    (s.withPast n l).store m v = (s.store m v).withPast n l := by
  simp [State.store]

theorem State.adc_withPast (src : Source) : (s.withPast n l).adc src = (s.adc src).withPast n l := by
  cases h : s.p.d <;> simp [State.adc, h]

theorem State.sbc_withPast (src : Source) : (s.withPast n l).sbc src = (s.sbc src).withPast n l := by
  cases h : s.p.d <;> simp [State.sbc, h]

theorem State.loadA_withPast (src : Source) : (s.withPast n l).loadA src = (s.loadA src).withPast n l := by
  simp [State.loadA, State.transferA, State.withNZ]

theorem State.loadX_withPast (src : Source) : (s.withPast n l).loadX src = (s.loadX src).withPast n l := by
  simp [State.loadX, State.transferX, State.withNZ]

theorem State.loadY_withPast (src : Source) : (s.withPast n l).loadY src = (s.loadY src).withPast n l := by
  simp [State.loadY, State.transferY, State.withNZ]

theorem State.logic_withPast (f : Byte → Byte → Byte) (src : Source) :
    (s.withPast n l).logic f src = (s.logic f src).withPast n l := by
  simp [State.logic, State.transferA, State.withNZ]

theorem State.compareWith_withPast (r : Byte) (src : Source) :
    (s.withPast n l).compareWith r src = (s.compareWith r src).withPast n l := by
  simp [State.compareWith]

theorem State.bit_withPast (m : MemOperand) : (s.withPast n l).bit m = (s.bit m).withPast n l := by
  simp [State.bit]

theorem State.callSubroutine_withPast (w : Word) :
    (s.withPast n l).callSubroutine w = (s.callSubroutine w).withPast n l := by
  simp [State.callSubroutine]

theorem State.returnFromSubroutine_withPast :
    (s.withPast n l).returnFromSubroutine = s.returnFromSubroutine.withPast n l := by
  simp [State.returnFromSubroutine]

theorem State.returnFromInterrupt_withPast :
    (s.withPast n l).returnFromInterrupt = s.returnFromInterrupt.withPast n l := by
  simp [State.returnFromInterrupt]

theorem State.softwareInterrupt_withPast :
    (s.withPast n l).softwareInterrupt = s.softwareInterrupt.withPast n l := by
  simp [State.softwareInterrupt]

/-! ### The end of an instruction -/

@[simp] theorem crossed_withPast (m : MemOperand) : m.crossed (s.withPast n l) = m.crossed s := by
  cases m <;> rfl

@[simp] theorem State.cost_withPast (i : Instr) (extra : Nat) :
    (s.withPast n l).cost i extra = s.cost i extra := by
  simp [State.cost, State.pagePenalty]

end

/-- An instruction commutes with `withPast` when what its handler leaves does: its cycles are the same. -/
theorem complete_withPast {i : Instr} {extra : Nat} {s t t' : State} {n : BitVec 64} {l : List Event}
    (h : t' = t.withPast n l) :
    complete i extra (s.withPast n l) t' = outWithPast n l (complete i extra s t) := by
  simp [complete, outWithPast, h]

section
variable (s : State) (n : BitVec 64) (l : List Event)

theorem State.branch_withPast (i : Instr) (taken : Bool) (d : Byte) :
    State.branch i taken d (s.withPast n l) = outWithPast n l (State.branch i taken d s) := by
  cases taken with
  | true => exact complete_withPast rfl
  | false => exact complete_withPast rfl

theorem State.bitBranch_withPast (i : Instr) (z : Byte) (k : Nat) (want : Bool) (d : Byte) :
    State.bitBranch i z k want d (s.withPast n l) = outWithPast n l (State.bitBranch i z k want d s) := by
  unfold State.bitBranch
  rw [State.withPast_peek]
  split
  · exact complete_withPast rfl
  · exact complete_withPast rfl

theorem State.fallback_withPast (i : Instr) (op : Byte) :
    State.fallback i op (s.withPast n l) = outWithPast n l (State.fallback i op s) := by
  unfold State.fallback
  rw [State.withPast_cfg]
  cases s.cfg.illegalPolicy with
  | asBRK => exact complete_withPast (s.softwareInterrupt_withPast n l)
  | refuse => rfl

end

end Sys2Proof.Machine
end

section
/-! SUPPORT. The cycle counter and the trace influence nothing (R31, R370): `exec` and `step` commute with
`State.withPast`, then the statement. -/

namespace Sys2Proof.Machine

section
variable (s : State) (n : BitVec 64) (l : List Event)

/-- No instruction looks at what the machine did before: by the shared operation that each one calls. -/
theorem exec_withPast (i : Instr) : exec i (s.withPast n l) = outWithPast n l (exec i s) := by
  cases i with
  | tax | tay | txa | tya | tsx | txs | inx | iny | dex | dey | bitImm _ | bra _ | jmpAbs _ | jmpInd _
  | jmpAbsXInd _ | pla | plp | plx | ply | clc | sec | cli | sei | clv | cld | sed | nop =>
    exact complete_withPast rfl
  | ldaXInd _ | ldaZp _ | ldaImm _ | ldaAbs _ | ldaIndY _ | ldaZpInd _ | ldaZpX _ | ldaAbsY _ | ldaAbsX _ =>
    exact complete_withPast (s.loadA_withPast n l _)
  | ldxImm _ | ldxZp _ | ldxAbs _ | ldxZpY _ | ldxAbsY _ =>
    exact complete_withPast (s.loadX_withPast n l _)
  | ldyImm _ | ldyZp _ | ldyAbs _ | ldyZpX _ | ldyAbsX _ =>
    exact complete_withPast (s.loadY_withPast n l _)
  | staXInd _ | staZp _ | staAbs _ | staIndY _ | staZpInd _ | staZpX _ | staAbsY _ | staAbsX _ | stxZp _
  | stxAbs _ | stxZpY _ | styZp _ | styAbs _ | styZpX _ | stzZp _ | stzZpX _ | stzAbs _ | stzAbsX _ =>
    exact complete_withPast (s.store_withPast n l _ _)
  | adcXInd _ | adcZp _ | adcImm _ | adcAbs _ | adcIndY _ | adcZpInd _ | adcZpX _ | adcAbsY _ | adcAbsX _ =>
    exact complete_withPast (s.adc_withPast n l _)
  | sbcXInd _ | sbcZp _ | sbcImm _ | sbcAbs _ | sbcIndY _ | sbcZpInd _ | sbcZpX _ | sbcAbsY _ | sbcAbsX _ =>
    exact complete_withPast (s.sbc_withPast n l _)
  | cmpXInd _ | cmpZp _ | cmpImm _ | cmpAbs _ | cmpIndY _ | cmpZpInd _ | cmpZpX _ | cmpAbsY _ | cmpAbsX _
  | cpxImm _ | cpxZp _ | cpxAbs _ | cpyImm _ | cpyZp _ | cpyAbs _ =>
    exact complete_withPast (s.compareWith_withPast n l _ _)
  | andXInd _ | andZp _ | andImm _ | andAbs _ | andIndY _ | andZpInd _ | andZpX _ | andAbsY _ | andAbsX _
  | oraXInd _ | oraZp _ | oraImm _ | oraAbs _ | oraIndY _ | oraZpInd _ | oraZpX _ | oraAbsY _ | oraAbsX _
  | eorXInd _ | eorZp _ | eorImm _ | eorAbs _ | eorIndY _ | eorZpInd _ | eorZpX _ | eorAbsY _ | eorAbsX _ =>
    exact complete_withPast (s.logic_withPast n l _ _)
  | bitZp _ | bitAbs _ | bitZpX _ | bitAbsX _ =>
    exact complete_withPast (s.bit_withPast n l _)
  | incAcc | incZp _ | incAbs _ | incZpX _ | incAbsX _ | decAcc | decZp _ | decAbs _ | decZpX _ | decAbsX _
  | aslZp _ | aslAcc | aslAbs _ | aslZpX _ | aslAbsX _ | lsrZp _ | lsrAcc | lsrAbs _ | lsrZpX _ | lsrAbsX _
  | rolZp _ | rolAcc | rolAbs _ | rolZpX _ | rolAbsX _ | rorZp _ | rorAcc | rorAbs _ | rorZpX _ | rorAbsX _
  | tsbZp _ | tsbAbs _ | trbZp _ | trbAbs _ | rmb0 _ | rmb1 _ | rmb2 _ | rmb3 _ | rmb4 _ | rmb5 _ | rmb6 _
  | rmb7 _ | smb0 _ | smb1 _ | smb2 _ | smb3 _ | smb4 _ | smb5 _ | smb6 _ | smb7 _ =>
    exact complete_withPast (s.modify_withPast n l _ _ _)
  | bbr0 _ _ | bbr1 _ _ | bbr2 _ _ | bbr3 _ _ | bbr4 _ _ | bbr5 _ _ | bbr6 _ _ | bbr7 _ _ | bbs0 _ _
  | bbs1 _ _ | bbs2 _ _ | bbs3 _ _ | bbs4 _ _ | bbs5 _ _ | bbs6 _ _ | bbs7 _ _ =>
    exact s.bitBranch_withPast n l _ _ _ _ _
  | bpl _ | bmi _ | bvc _ | bvs _ | bcc _ | bcs _ | bne _ | beq _ =>
    exact s.branch_withPast n l _ _ _
  | pha | php | phx | phy =>
    exact complete_withPast (s.push_withPast n l _)
  | jsr _ =>
    exact complete_withPast (s.callSubroutine_withPast n l _)
  | rts =>
    exact complete_withPast (s.returnFromSubroutine_withPast n l)
  | rti =>
    exact complete_withPast (s.returnFromInterrupt_withPast n l)
  | brk =>
    exact complete_withPast (s.softwareInterrupt_withPast n l)
  | illNmos _ | illCmos _ =>
    exact s.fallback_withPast n l _ _

/-! ### The step -/

@[simp] theorem State.fetchByte_withPast : (s.withPast n l).fetchByte = s.fetchByte.withPast n l := rfl

@[simp] theorem State.fetchBytes_withPast (k : Nat) :
    State.fetchBytes k (s.withPast n l) = (State.fetchBytes k s).withPast n l := by
  induction k generalizing s with
  | zero => rfl
  | succ k ih => simp [State.fetchBytes, ih]

theorem State.fetchInstr_withPast (k : Nat) :
    (s.withPast n l).fetchInstr k = (s.fetchInstr k).withPast n l := by
  simp [State.fetchInstr]

theorem decodeAt_withPast : decodeAt (s.withPast n l) = decodeAt s := rfl

theorem State.enterNmi_withPast : (s.withPast n l).enterNmi = s.enterNmi.withPast n l := by
  simp [State.enterNmi]

theorem State.enterIrq_withPast : (s.withPast n l).enterIrq = s.enterIrq.withPast n l := by
  simp [State.enterIrq]

theorem State.sampleInterrupts_withPast :
    (s.withPast n l).sampleInterrupts = s.sampleInterrupts.map (·.withPast n l) := by
  unfold State.sampleInterrupts
  rw [State.withPast_nmiPending, State.withPast_irqLine, State.withPast_p, State.enterNmi_withPast,
    State.enterIrq_withPast]
  split
  · rfl
  · split
    · rfl
    · rfl

theorem finishStep_withPast (p : Word) (op : Byte) (o : Out) :
    finishStep p op (outWithPast n l o) = outWithPast n l (finishStep p op o) := by
  cases o <;> rfl

/-- The step commutes with `withPast`: it runs as if nothing had been before, and keeps what was. -/
theorem step_withPast : step (s.withPast n l) = outWithPast n l (step s) := by
  unfold step
  rw [State.withPast_runState]
  cases s.runState with
  | idle => rfl
  | halted => rfl
  | running =>
    rw [State.sampleInterrupts_withPast]
    cases s.sampleInterrupts with
    | some t => rfl
    | none =>
      simp only [Option.map_none, decodeAt_withPast, State.fetchInstr_withPast, exec_withPast,
        finishStep_withPast, State.withPast_pc, State.withPast_peek]

end

/-! ### States that differ in timing only -/

/-- `s` with no past of its own: no cycle counted, no event emitted. -/
def State.withoutPast (s : State) : State := { s with cycles := 0, trace := [] }

theorem State.withPast_withoutPast (s : State) : s.withoutPast.withPast s.cycles s.trace = s := by
  simp [State.withPast, State.withoutPast]

/-- States that agree but in timing are one state with two pasts. -/
theorem State.agreesButTiming.withoutPast_eq {s t : State} (h : s.agreesButTiming t) :
    s.withoutPast = t.withoutPast := h ▸ rfl

theorem State.agreesButTiming_withPast (s : State) (n n' : BitVec 64) (l l' : List Event) :
    (s.withPast n l).agreesButTiming (s.withPast n' l') := rfl

/-- The past of a state is not part of what a run adds to the counter. -/
theorem State.withPast_cycles_sub (s : State) (n : BitVec 64) (l : List Event) :
    (s.withPast n l).cycles - n = s.cycles :=
  add_sub_cancel_left n s.cycles

end Sys2Proof.Machine

namespace Sys2Proof.Proofs

open Sys2Proof.Machine

/-- Settles O59: both states are one state with two pasts, and `step_withPast` runs that one state once for both. -/
theorem timingIsNotObservable : Obligations.TimingIsNotObservable := by
  intro s s' t hagree hstep
  have hs' : step s' = outWithPast s'.cycles s'.trace (step s.withoutPast) := by
    rw [hagree.withoutPast_eq, ← step_withPast, State.withPast_withoutPast]
  rw [← s.withPast_withoutPast, step_withPast] at hstep
  obtain ⟨u, hu, rfl⟩ := outWithPast_eq_next hstep
  rw [hu] at hs'
  exact ⟨u.withPast s'.cycles s'.trace, hs', u.agreesButTiming_withPast _ _ _ _,
    by rw [State.withPast_cycles_sub, State.withPast_cycles_sub]⟩

end Sys2Proof.Proofs
end

section
/-! SUPPORT. The decoder and the encoder (R70 to R77): what a decoded instruction was read from, which bytes are
illegal, and the round trip from either side; then the statements about the opcode table. -/

namespace Sys2Proof

open Machine (joinBytes highByte lowByte)
open Sys2Proof.Claims

/-! ### A word and its two bytes -/

@[simp] theorem joinBytes_highByte_lowByte (w : Word) : joinBytes (highByte w) (lowByte w) = w := by
  apply BitVec.eq_of_toNat_eq
  rw [joinBytes, Machine.toNat_append_eq_add, Machine.highByte_eq_ofNat, Machine.lowByte_eq_ofNat,
    BitVec.toNat_ofNat, BitVec.toNat_ofNat]
  omega

/-- Any two bytes are the two bytes of a word. -/
theorem exists_lowByte_highByte (lo hi : Byte) : ∃ w, lowByte w = lo ∧ highByte w = hi :=
  ⟨joinBytes hi lo, BitVec.extractLsb'_append_eq_right, BitVec.extractLsb'_append_eq_left⟩

/-! ### What a decoded instruction was read from -/

/-- `i` belongs to the variant, and its encoding is the first of the three bytes it was decoded from. -/
structure IsReadFrom (v : Variant) (i : Instr) (op b1 b2 : Byte) : Prop where
  encode_eq  : encode i = [op, b1, b2].take i.length
  wellFormed : i.wellFormed v = true

/-- Row by row: the operand bytes, taken as the two bytes of a word, go back where they came from. -/
theorem isReadFrom_decodeShared {v : Variant} {i : Instr} {op b1 b2 : Byte}
    (h : decodeShared op b1 b2 = some i) : IsReadFrom v i op b1 b2 := by
  obtain ⟨w, rfl, rfl⟩ := exists_lowByte_highByte b1 b2
  simp only [decodeShared, decodeRow0, decodeRow1, decodeRow2, decodeRow3, decodeRow4, decodeRow5,
    decodeRow6, decodeRow7, decodeRow8, decodeRow9, decodeRowA, decodeRowB, decodeRowC, decodeRowD,
    decodeRowE, decodeRowF, joinBytes_highByte_lowByte] at h
  split at h <;> split at h <;> cases h <;> exact ⟨rfl, rfl⟩

theorem isReadFrom_decodeCmosOnly {i : Instr} {op b1 b2 : Byte}
    (h : decodeCmosOnly op b1 b2 = some i) : IsReadFrom .cmos65c02 i op b1 b2 := by
  obtain ⟨w, rfl, rfl⟩ := exists_lowByte_highByte b1 b2
  simp only [decodeCmosOnly, decodeCmosRow0, decodeCmosRow1, decodeCmosRow2, decodeCmosRow3,
    decodeCmosRow4, decodeCmosRow5, decodeCmosRow6, decodeCmosRow7, decodeCmosRow8, decodeCmosRow9,
    decodeCmosRowA, decodeCmosRowB, decodeCmosRowC, decodeCmosRowD, decodeCmosRowE, decodeCmosRowF,
    joinBytes_highByte_lowByte] at h
  split at h <;> split at h <;> cases h <;> exact ⟨rfl, rfl⟩

/-! ### Which bytes have no row (R77): over the 256 bytes, whatever the operand bytes are -/

theorem isNone_decodeShared (op b1 b2 : Byte) :
    (decodeShared op b1 b2).isNone = nmosIllegal.contains op := by
  revert op
  exact of_decide_eq_true rfl

theorem isNone_decodeCmosOnly (op b1 b2 : Byte) (hop : nmosIllegal.contains op = true) :
    (decodeCmosOnly op b1 b2).isNone = cmosIllegal.contains op := by
  revert op
  exact of_decide_eq_true rfl

theorem contains_nmosIllegal_of_cmosIllegal :
    ∀ op : Byte, cmosIllegal.contains op = true → nmosIllegal.contains op = true := by
  decide

theorem decodeShared_eq_none {op : Byte} (b1 b2 : Byte) (hop : nmosIllegal.contains op = true) :
    decodeShared op b1 b2 = none := by
  rw [← Option.isNone_iff_eq_none, isNone_decodeShared, hop]

theorem decodeCmosOnly_eq_none {op : Byte} (b1 b2 : Byte) (hop : cmosIllegal.contains op = true) :
    decodeCmosOnly op b1 b2 = none := by
  rw [← Option.isNone_iff_eq_none, isNone_decodeCmosOnly op b1 b2 (contains_nmosIllegal_of_cmosIllegal op hop), hop]

/-! ### The decoder of a variant, case by case -/

theorem decodeBytes_of_shared {op b1 b2 : Byte} {i : Instr} (v : Variant)
    (h : decodeShared op b1 b2 = some i) : decodeBytes v op b1 b2 = i := by
  unfold decodeBytes
  rw [h]

theorem decodeBytes_of_cmosOnly {op b1 b2 : Byte} {i : Instr} (hnone : decodeShared op b1 b2 = none)
    (h : decodeCmosOnly op b1 b2 = some i) : decodeBytes .cmos65c02 op b1 b2 = i := by
  unfold decodeBytes
  rw [hnone]
  simp only [h]

theorem decodeBytes_of_illegal {v : Variant} {op : Byte} (b1 b2 : Byte)
    (hop : (illegalBytes v).contains op = true) : decodeBytes v op b1 b2 = fallbackEntry v op := by
  cases v with
  | nmos6502 =>
    unfold decodeBytes
    rw [decodeShared_eq_none b1 b2 hop]
    rfl
  | cmos65c02 =>
    unfold decodeBytes
    rw [decodeShared_eq_none b1 b2 (contains_nmosIllegal_of_cmosIllegal op hop)]
    simp only [decodeCmosOnly_eq_none b1 b2 hop]
    rfl

/-- A fallback entry belongs to its variant exactly with an illegal byte. -/
theorem fallbackEntry_wellFormed (v : Variant) (op : Byte) :
    (fallbackEntry v op).wellFormed v = (illegalBytes v).contains op := by
  cases v <;> rfl

theorem isReadFrom_fallbackEntry {v : Variant} {op : Byte} (b1 b2 : Byte)
    (hop : (illegalBytes v).contains op = true) : IsReadFrom v (fallbackEntry v op) op b1 b2 :=
  ⟨by cases v <;> rfl, by rw [fallbackEntry_wellFormed, hop]⟩

theorem isReadFrom_decodeBytes (v : Variant) (op b1 b2 : Byte) :
    IsReadFrom v (decodeBytes v op b1 b2) op b1 b2 := by
  by_cases hop : (illegalBytes v).contains op = true
  · rw [decodeBytes_of_illegal b1 b2 hop]
    exact isReadFrom_fallbackEntry b1 b2 hop
  cases hs : decodeShared op b1 b2 with
  | some i => exact decodeBytes_of_shared v hs ▸ isReadFrom_decodeShared hs
  | none =>
    have hnmos : nmosIllegal.contains op = true := by rw [← isNone_decodeShared op b1 b2, hs]; rfl
    cases v with
    | nmos6502 => exact absurd hnmos hop
    | cmos65c02 =>
      cases hc : decodeCmosOnly op b1 b2 with
      | some i => exact decodeBytes_of_cmosOnly hs hc ▸ isReadFrom_decodeCmosOnly hc
      | none =>
        have hcmos : cmosIllegal.contains op = true := by
          rw [← isNone_decodeCmosOnly op b1 b2 hnmos, hc]; rfl
        exact absurd hcmos hop

theorem decodeBytes_eq_fallbackEntry_iff (v : Variant) (op b1 b2 : Byte) :
    decodeBytes v op b1 b2 = fallbackEntry v op ↔ (illegalBytes v).contains op = true := by
  refine ⟨fun h => ?_, decodeBytes_of_illegal b1 b2⟩
  rw [← fallbackEntry_wellFormed, ← h]
  exact (isReadFrom_decodeBytes v op b1 b2).wellFormed

/-! ### Decoding what was encoded -/

theorem Operand.length_bytes (o : Operand) : o.bytes.length = o.mode.operandBytes := by
  cases o with
  | mem m => cases m <;> rfl
  | _ => rfl

/-- Each row evaluates, but for a word operand, which is put together again from its two bytes. -/
theorem decodeBytes_encode {v : Variant} {i : Instr} (rest : List Byte) (hwf : i.wellFormed v = true) :
    decodeBytes v i.opcode ((i.operand.bytes ++ rest).getD 0 0) ((i.operand.bytes ++ rest).getD 1 0) = i := by
  cases i with
  | ldaXInd _ | ldaZp _ | ldaImm _ | ldaIndY _ | ldaZpX _ | ldxImm _ | ldxZp _ | ldxZpY _ | ldyImm _ | ldyZp _
  | ldyZpX _ | staXInd _ | staZp _ | staIndY _ | staZpX _ | stxZp _ | stxZpY _ | styZp _ | styZpX _ | tax | tay
  | txa | tya | tsx | txs | adcXInd _ | adcZp _ | adcImm _ | adcIndY _ | adcZpX _ | sbcXInd _ | sbcZp _
  | sbcImm _ | sbcIndY _ | sbcZpX _ | cmpXInd _ | cmpZp _ | cmpImm _ | cmpIndY _ | cmpZpX _ | cpxImm _ | cpxZp _
  | cpyImm _ | cpyZp _ | incZp _ | incZpX _ | decZp _ | decZpX _ | inx | iny | dex | dey | andXInd _ | andZp _
  | andImm _ | andIndY _ | andZpX _ | oraXInd _ | oraZp _ | oraImm _ | oraIndY _ | oraZpX _ | eorXInd _
  | eorZp _ | eorImm _ | eorIndY _ | eorZpX _ | bitZp _ | aslZp _ | aslAcc | aslZpX _ | lsrZp _ | lsrAcc
  | lsrZpX _ | rolZp _ | rolAcc | rolZpX _ | rorZp _ | rorAcc | rorZpX _ | bpl _ | bmi _ | bvc _ | bvs _ | bcc _
  | bcs _ | bne _ | beq _ | rts | pha | pla | php | plp | clc | sec | cli | sei | clv | cld | sed | nop | brk
  | rti =>
    dsimp only [Instr.opcode, Instr.operand, Instr.row]
    rfl
  | ldaAbs w | ldaAbsY w | ldaAbsX w | ldxAbs w | ldxAbsY w | ldyAbs w | ldyAbsX w | staAbs w | staAbsY w
  | staAbsX w | stxAbs w | styAbs w | adcAbs w | adcAbsY w | adcAbsX w | sbcAbs w | sbcAbsY w | sbcAbsX w
  | cmpAbs w | cmpAbsY w | cmpAbsX w | cpxAbs w | cpyAbs w | incAbs w | incAbsX w | decAbs w | decAbsX w
  | andAbs w | andAbsY w | andAbsX w | oraAbs w | oraAbsY w | oraAbsX w | eorAbs w | eorAbsY w | eorAbsX w
  | bitAbs w | aslAbs w | aslAbsX w | lsrAbs w | lsrAbsX w | rolAbs w | rolAbsX w | rorAbs w | rorAbsX w
  | jmpAbs w | jmpInd w | jsr w =>
    dsimp only [Instr.opcode, Instr.operand, Instr.row]
    conv_rhs => rw [← joinBytes_highByte_lowByte w]
    rfl
  | ldaZpInd _ | staZpInd _ | stzZp _ | stzZpX _ | adcZpInd _ | sbcZpInd _ | cmpZpInd _ | incAcc | decAcc
  | andZpInd _ | oraZpInd _ | eorZpInd _ | bitZpX _ | bitImm _ | tsbZp _ | trbZp _ | rmb0 _ | rmb1 _ | rmb2 _
  | rmb3 _ | rmb4 _ | rmb5 _ | rmb6 _ | rmb7 _ | smb0 _ | smb1 _ | smb2 _ | smb3 _ | smb4 _ | smb5 _ | smb6 _
  | smb7 _ | bra _ | bbr0 _ _ | bbr1 _ _ | bbr2 _ _ | bbr3 _ _ | bbr4 _ _ | bbr5 _ _ | bbr6 _ _ | bbr7 _ _
  | bbs0 _ _ | bbs1 _ _ | bbs2 _ _ | bbs3 _ _ | bbs4 _ _ | bbs5 _ _ | bbs6 _ _ | bbs7 _ _ | phx | plx | phy
  | ply =>
    cases v with
    | nmos6502 => nomatch hwf
    | cmos65c02 =>
      dsimp only [Instr.opcode, Instr.operand, Instr.row]
      rfl
  | stzAbs w | stzAbsX w | bitAbsX w | tsbAbs w | trbAbs w | jmpAbsXInd w =>
    cases v with
    | nmos6502 => nomatch hwf
    | cmos65c02 =>
      dsimp only [Instr.opcode, Instr.operand, Instr.row]
      conv_rhs => rw [← joinBytes_highByte_lowByte w]
      rfl
  | illNmos op =>
    cases v with
    | nmos6502 => exact decodeBytes_of_illegal _ _ hwf
    | cmos65c02 => nomatch hwf
  | illCmos op =>
    cases v with
    | nmos6502 => nomatch hwf
    | cmos65c02 => exact decodeBytes_of_illegal _ _ hwf

theorem decode_encode {v : Variant} {i : Instr} (rest : List Byte) (hwf : i.wellFormed v = true) :
    decode v (encode i ++ rest) = .ok (i, rest) := by
  have hlen : i.operand.bytes.length = i.operandBytes := i.operand.length_bytes
  simp only [encode, List.cons_append, decode, decodeBytes_encode rest hwf]
  simp [← hlen]

/-! ### Costs -/

/-- Every row of the table costs 2 to 7 cycles, in either variant. -/
theorem Instr.base_bounds (i : Instr) (v : Variant) : 2 ≤ (i.cost v).base ∧ (i.cost v).base ≤ 7 := by
  cases v <;> cases i <;> exact of_decide_eq_true rfl

end Sys2Proof

namespace Sys2Proof.Proofs

open Sys2Proof.Machine Sys2Proof.Claims

/-! ### The statements -/

/-- Settles O41, by `decode_encode`. -/
theorem decodeEncodeRoundTrip : Obligations.DecodeEncodeRoundTrip := fun _ _ rest hwf =>
  decode_encode rest hwf

/-- Settles O42: well-formedness and encoding by `isReadFrom_decodeBytes`, the fallback by the illegal bytes. -/
theorem everyByteHasOneInstruction : Obligations.EveryByteHasOneInstruction := by
  refine ⟨fun v op b1 b2 => ?_, rfl, rfl⟩
  obtain ⟨hencode, hwf⟩ := isReadFrom_decodeBytes v op b1 b2
  exact ⟨hwf, hencode, by rw [decodeBytes_eq_fallbackEntry_iff, List.contains_iff_mem]⟩

/-- Settles O40: each word is the encoding of its instruction, so `decode_encode` reads it back. -/
theorem knownWordsDecode : Obligations.KnownWordsDecode :=
  ⟨fun _ => ⟨decode_encode (i := .ldaImm 0x42) [] rfl, decode_encode (i := .ldaIndY 0x40) [] rfl,
      decode_encode (i := .staAbs 0x1234) [] rfl, decode_encode (i := .rorAbsX 0x30FF) [] rfl⟩,
    decode_encode (i := .incAcc) [] rfl, decode_encode (i := .bbs7 0x10 0xFB) [] rfl,
    decode_encode (i := .jmpAbsXInd 0x3000) [] rfl, decode_encode (i := .illNmos 0x1A) [] rfl,
    decode_encode (i := .illNmos 0x89) [] rfl, decode_encode (i := .illCmos 0xCB) [] rfl⟩

/-- Settles O43: the bounds hold of every row; the sums are evaluated. -/
theorem baseCyclesOfTheTable : Obligations.BaseCyclesOfTheTable :=
  ⟨fun v op => (decodeBytes v op 0 0).base_bounds v, by decide +kernel, by decide +kernel⟩

end Sys2Proof.Proofs
end

section
/-! SUPPORT. Which steps there are (R102): an NMI entry, an IRQ entry, or the instruction decoded at PC, with its
fetch (R106); and what can be refused (R294, D29). Then the statements about single steps. -/

namespace Sys2Proof.Machine

open Sys2Proof.Claims

/-! ### The three kinds of step, and no step -/

theorem step_of_nmi {s : State} (hrun : s.runState = .running) (hnmi : s.nmiPending = true) :
    step s = .next s.enterNmi := by
  simp [step, hrun, State.sampleInterrupts, hnmi]

theorem step_of_irq {s : State} (hrun : s.runState = .running) (hnmi : s.nmiPending = false)
    (hirq : s.irqLine = true) (hi : s.p.i = false) : step s = .next s.enterIrq := by
  simp [step, hrun, State.sampleInterrupts, hnmi, hirq, hi]

theorem step_of_fetches {s : State} (h : s.fetches) :
    step s = finishStep s.pc (s.peek s.pc)
      (exec (decodeAt s) (s.fetchInstr (decodeAt s).operandBytes)) := by
  obtain ⟨hrun, hnmi, hirq | hi⟩ := h
  · simp [step, hrun, State.sampleInterrupts, hnmi, hirq]
  · simp [step, hrun, State.sampleInterrupts, hnmi, hi]

theorem finishStep_eq_next {p : Word} {op : Byte} {o : Out} {t : State} (h : finishStep p op o = .next t) :
    ∃ u, o = .next u ∧ u.emit (.justExecuted p op) = t := by
  cases o with
  | next u => exact ⟨u, rfl, Host.Outcome.next.inj h⟩
  | fault f => nomatch f
  | refused r => nomatch h

theorem step_of_not_running {s : State} (h : s.runState ≠ .running) :
    step s = .refused (.notRunning s.runState) := by
  cases hrun : s.runState with
  | running => exact absurd hrun h
  | idle | halted => simp [step, hrun]

theorem State.hostRun_of_not_running {s : State} (sched : List (List HostAction)) (h : s.runState ≠ .running) :
    s.hostRun sched = .refused (.notRunning s.runState) := by
  cases hrun : s.runState with
  | running => exact absurd hrun h
  | idle | halted => simp [State.hostRun, hrun]

/-- What a Running state does next. -/
theorem State.running_cases {s : State} (hrun : s.runState = .running) :
    s.nmiPending = true ∨ (s.nmiPending = false ∧ s.irqLine = true ∧ s.p.i = false) ∨ s.fetches := by
  cases hnmi : s.nmiPending with
  | true => exact .inl rfl
  | false =>
    cases hirq : s.irqLine with
    | false => exact .inr (.inr ⟨hrun, hnmi, .inl hirq⟩)
    | true =>
      cases hi : s.p.i with
      | false => exact .inr (.inl ⟨rfl, rfl, rfl⟩)
      | true => exact .inr (.inr ⟨hrun, hnmi, .inr hi⟩)

/-! ### The fetch -/

theorem operandBytes_le_two (i : Instr) : i.operandBytes ≤ 2 := by
  rw [Instr.operandBytes]
  cases i.operand.mode <;> decide

/-- The fetch moves PC past the instruction's bytes and emits the events of R106, and nothing else. -/
theorem State.fetchInstr_eq (s : State) {n : Nat} (hn : n ≤ 2) :
    s.fetchInstr n = { s with
      pc := s.pc + BitVec.ofNat 16 (1 + n)
      trace := operandReads s n ++ .aboutToExecute s.pc (s.peek s.pc) :: rd s s.pc :: s.trace } := by
  have two : s.pc + 1 + 1 = s.pc + 2 := BitVec.add_assoc s.pc 1 1
  have three : s.pc + 1 + 1 + 1 = s.pc + 3 := by rw [two]; exact BitVec.add_assoc s.pc 2 1
  match n, hn with
  | 0, _ => rfl
  | 1, _ =>
    change _ = { s with pc := s.pc + 2, trace := _ }
    rw [← two]
    rfl
  | 2, _ =>
    change { s with pc := s.pc + 1 + 1 + 1, trace := .byteRead (s.pc + 1 + 1) (s.peek (s.pc + 1 + 1)) :: _ } = _
    rw [three, two]
    rfl

/-! ### Refusals -/

theorem State.fallback_of_refuse {s : State} (i : Instr) (op : Byte) (h : s.cfg.illegalPolicy = .refuse) :
    State.fallback i op s = .refused (.illegalOpcode op) := by
  simp [State.fallback, h]

theorem State.fallback_of_asBRK {s : State} (i : Instr) (op : Byte) (h : s.cfg.illegalPolicy = .asBRK) :
    State.fallback i op s = complete i 0 s s.softwareInterrupt := by
  simp [State.fallback, h]

theorem exec_fallbackEntry_of_refuse {s : State} (v : Variant) (op : Byte) (h : s.cfg.illegalPolicy = .refuse) :
    exec (fallbackEntry v op) s = .refused (.illegalOpcode op) := by
  cases v <;> exact State.fallback_of_refuse _ op h

theorem State.branch_next (i : Instr) (taken : Bool) (d : Byte) (s : State) :
    ∃ t, State.branch i taken d s = .next t := by
  cases taken <;> exact ⟨_, rfl⟩

theorem State.bitBranch_next (i : Instr) (z : Byte) (n : Nat) (want : Bool) (d : Byte) (s : State) :
    ∃ t, State.bitBranch i z n want d s = .next t := by
  unfold State.bitBranch
  split <;> exact ⟨_, rfl⟩

/-- Only a fallback entry can be refused, and only under Refuse. -/
theorem exec_next {i : Instr} {s : State}
    (h : s.cfg.illegalPolicy = .asBRK ∨ ∀ v op, i ≠ fallbackEntry v op) : ∃ t, exec i s = .next t := by
  cases i with
  | illNmos op =>
    have hbrk := h.resolve_right fun hne => hne .nmos6502 op rfl
    exact ⟨_, State.fallback_of_asBRK (.illNmos op) op hbrk⟩
  | illCmos op =>
    have hbrk := h.resolve_right fun hne => hne .cmos65c02 op rfl
    exact ⟨_, State.fallback_of_asBRK (.illCmos op) op hbrk⟩
  | bpl _ | bmi _ | bvc _ | bvs _ | bcc _ | bcs _ | bne _ | beq _ => exact State.branch_next _ _ _ s
  | bbr0 _ _ | bbr1 _ _ | bbr2 _ _ | bbr3 _ _ | bbr4 _ _ | bbr5 _ _ | bbr6 _ _ | bbr7 _ _ | bbs0 _ _
  | bbs1 _ _ | bbs2 _ _ | bbs3 _ _ | bbs4 _ _ | bbs5 _ _ | bbs6 _ _ | bbs7 _ _ =>
    exact State.bitBranch_next _ _ _ _ _ s
  | _ => exact ⟨_, rfl⟩

theorem variant_eq_of_fallbackEntry {v v' : Variant} {op : Byte}
    (h : (fallbackEntry v' op).wellFormed v = true) : v' = v := by
  cases v with
  | nmos6502 =>
    cases v' with
    | nmos6502 => rfl
    | cmos65c02 => nomatch h
  | cmos65c02 =>
    cases v' with
    | nmos6502 => nomatch h
    | cmos65c02 => rfl

/-- A legal byte is not decoded to a fallback entry, of either variant. -/
theorem decodeBytes_ne_fallbackEntry {v : Variant} {op : Byte} (b1 b2 : Byte)
    (hop : op ∉ illegalBytes v) (v' : Variant) (op' : Byte) : decodeBytes v op b1 b2 ≠ fallbackEntry v' op' := by
  intro h
  obtain ⟨hencode, hwf⟩ := isReadFrom_decodeBytes v op b1 b2
  rw [h] at hencode hwf
  have hop' : op' = op := by cases v' <;> exact (List.cons.inj hencode).1
  have hv : v' = v := variant_eq_of_fallbackEntry hwf
  subst hop' hv
  rw [fallbackEntry_wellFormed, List.contains_iff_mem] at hwf
  exact hop hwf

end Sys2Proof.Machine

namespace Sys2Proof.Proofs

open Sys2Proof.Machine Sys2Proof.Claims

/-! ### The statements -/

/-- Settles O35: the refusal of the fallback, which the step passes on. -/
theorem refusePolicyRefusesIllegalOpcodes : Obligations.RefusePolicyRefusesIllegalOpcodes := by
  intro op s hpolicy
  refine ⟨State.fallback_of_refuse _ op hpolicy, State.fallback_of_refuse _ op hpolicy, fun hfetch hop => ?_⟩
  have hdecode : decodeAt s = fallbackEntry s.cfg.variant (s.peek s.pc) :=
    decodeBytes_of_illegal _ _ (List.contains_iff_mem.mpr hop)
  rw [step_of_fetches hfetch, hdecode, exec_fallbackEntry_of_refuse _ _ (by simpa using hpolicy), finishStep]

/-- Settles O36: the state after the fetch, as `State.fetchInstr_eq` gives it. -/
theorem stepRunsDecodedInstruction : Obligations.StepRunsDecodedInstruction := by
  intro s i hfetch hdecode
  have hi : decodeAt s = i := hdecode
  rw [step_of_fetches hfetch, hi, State.fetchInstr_eq s (operandBytes_le_two i)]
  rfl

/-- Settles O39, by `step_of_not_running`; `run()` refuses the same states. -/
theorem onlyRunningStatesStep : Obligations.OnlyRunningStatesStep := fun _ sched h =>
  ⟨step_of_not_running h, State.hostRun_of_not_running sched h⟩

end Sys2Proof.Proofs
end

section
/-! SUPPORT. What every step keeps: each property a relation that the building blocks of `exec_built` and
`step_built` meet. Then the statements about all steps. -/

namespace Sys2Proof.Machine

open Sys2Proof.Claims

/-! ### The relations -/

theorem State.wf_iff (s : State) : s.wf = true ↔ s.mem.wf = true ∧ s.lock.wf = true := by
  rw [State.wf, Bool.and_eq_true]

theorem State.write_wf {s : State} (a : Word) (v : Byte) (h : s.wf = true) : (s.write a v).wf = true := by
  obtain ⟨hmem, hlock⟩ := s.wf_iff.mp h
  exact (State.wf_iff _).mpr ⟨State.write_mem_wf a v hmem, by rwa [State.write_lock]⟩

theorem State.act_loadImage_wf {s : State} (bytes : List Byte) (offset : Word) (lockFlag : Bool)
    (h : s.wf = true) : (s.act (.loadImage bytes offset lockFlag)).wf = true := by
  by_cases hfit : 65536 < offset.toNat + bytes.length
  · simpa [State.act, State.loadImage, hfit] using h
  · obtain ⟨hmem, hlock⟩ := s.wf_iff.mp h
    have hmem' := Memory.wf_load hmem (Nat.le_of_not_lt hfit)
    have hlock' := LockMask.wf_addRange hlock (Nat.le_of_not_lt hfit)
    cases lockFlag <;> simp [State.act, State.loadImage, hfit, State.wf_iff, hmem', hlock', hlock]

/-- Only a write touches memory, and it keeps the canonical form. -/
theorem buildsUp_wf : BuildsUp fun s t => s.wf = true → t.wf = true where
  refl _ h := h
  trans hst htu h := htu (hst h)
  regs _ _ _ _ _ _ _ h := h
  ticks _ _ h := h
  reads _ _ h := h
  write _ a v := State.write_wf a v

/-- The lock mask of `s` still holds in `t`, and so do the bytes it locks. -/
def KeepsLocked (s t : State) : Prop := t.lock = s.lock ∧ ∀ a, s.isLocked a = true → t.peek a = s.peek a

theorem KeepsLocked.trans {s t u : State} (hst : KeepsLocked s t) (htu : KeepsLocked t u) : KeepsLocked s u := by
  obtain ⟨hlock, hpeek⟩ := hst
  obtain ⟨hlock', hpeek'⟩ := htu
  refine ⟨hlock'.trans hlock, fun a ha => ?_⟩
  rw [hpeek' a (by rwa [State.isLocked, hlock]), hpeek a ha]

/-- A write to a locked byte is refused. -/
theorem buildsUp_keepsLocked : BuildsUp KeepsLocked where
  refl _ := ⟨rfl, fun _ _ => rfl⟩
  trans := KeepsLocked.trans
  regs _ _ _ _ _ _ _ := ⟨rfl, fun _ _ => rfl⟩
  ticks _ _ := ⟨rfl, fun _ _ => rfl⟩
  reads _ _ := ⟨rfl, fun _ _ => rfl⟩
  write s a v := ⟨s.write_lock a v, fun _ => State.write_peek_locked a v⟩

theorem sameControl_trans {s t u : State} (hst : SameControl s t) (htu : SameControl t u) : SameControl s u := by
  obtain ⟨hcfg, hrun, hproceed, hirq, hnmi, hlock⟩ := hst
  obtain ⟨hcfg', hrun', hproceed', hirq', hnmi', hlock'⟩ := htu
  exact ⟨hcfg'.trans hcfg, hrun'.trans hrun, hproceed'.trans hproceed, hirq'.trans hirq, hnmi'.trans hnmi,
    hlock'.trans hlock⟩

/-- No instruction touches what the host owns. -/
theorem buildsUp_sameControl : BuildsUp SameControl where
  refl _ := ⟨rfl, rfl, rfl, rfl, rfl, rfl⟩
  trans := sameControl_trans
  regs _ _ _ _ _ _ _ := ⟨rfl, rfl, rfl, rfl, rfl, rfl⟩
  ticks _ _ := ⟨rfl, rfl, rfl, rfl, rfl, rfl⟩
  reads _ _ := ⟨rfl, rfl, rfl, rfl, rfl, rfl⟩
  write _ _ _ := by simp [SameControl]

/-- `t` has the events of `s` and, after them, accesses to memory only. -/
def EmitsAccesses (s t : State) : Prop :=
  ∃ l : List Event, (∀ e ∈ l, isAccess e = true) ∧ t.trace = l ++ s.trace

theorem EmitsAccesses.of_trace_eq {s t : State} (h : t.trace = s.trace) : EmitsAccesses s t :=
  ⟨[], by simp, h⟩

theorem EmitsAccesses.of_trace_cons {s t : State} {e : Event} (he : isAccess e = true)
    (h : t.trace = e :: s.trace) : EmitsAccesses s t :=
  ⟨[e], by simpa using he, h⟩

theorem EmitsAccesses.trans {s t u : State} (hst : EmitsAccesses s t) (htu : EmitsAccesses t u) :
    EmitsAccesses s u := by
  obtain ⟨l, hl, ht⟩ := hst
  obtain ⟨l', hl', hu⟩ := htu
  refine ⟨l' ++ l, fun e he => ?_, by rw [hu, ht, List.append_assoc]⟩
  exact (List.mem_append.mp he).elim (hl' e) (hl e)

theorem isAccess_wr (s : State) (a : Word) (v : Byte) : isAccess (wr s a v) = true := by
  unfold wr
  split <;> rfl

theorem buildsUp_emitsAccesses : BuildsUp EmitsAccesses where
  refl _ := .of_trace_eq rfl
  trans := EmitsAccesses.trans
  regs _ _ _ _ _ _ _ := .of_trace_eq rfl
  ticks _ _ := .of_trace_eq rfl
  reads s a := .of_trace_cons rfl (s.noteRead_trace a)
  write s a v := .of_trace_cons (isAccess_wr s a v) (write_trace s a v)

theorem isAccess_operandReads (s : State) (n : Nat) : ∀ e ∈ operandReads s n, isAccess e = true := by
  match n with
  | 0 | 1 | n + 2 => simp [operandReads, rd, isAccess]

/-- A step keeps everything that the host owns, but that the NMI latch is clear after it. -/
theorem sameControl_of_step {s t : State} (h : step s = .next t) : SameControl (s.withNmiPending false) t := by
  obtain ⟨-, ⟨-, rfl⟩ | ⟨hnmi, -, -, rfl⟩ | ⟨hnmi, -, u, hexec, rfl⟩⟩ := step_cases h
  · simp [SameControl, State.enterNmi]
  · simp [SameControl, State.enterIrq, hnmi]
  · have hu : SameControl (s.fetchInstr (decodeAt s).operandBytes) u := exec_built buildsUp_sameControl hexec
    simpa [SameControl, hnmi] using hu

end Sys2Proof.Machine

namespace Sys2Proof.Proofs

open Sys2Proof.Machine Sys2Proof.Claims

/-! ### The statements -/

/-- Settles O54, by `buildsUp_wf`: events and the NMI latch do not touch memory. -/
theorem stepKeepsCanonicalForm : Obligations.StepKeepsCanonicalForm := fun _ _ hwf hstep =>
  step_built buildsUp_wf (fun _ _ _ => ⟨id, id⟩) (fun _ => id) hstep hwf

/-- Settles O56, by `buildsUp_keepsLocked`: events and the NMI latch touch neither memory nor the lock mask. -/
theorem lockedBytesNeverChange : Obligations.LockedBytesNeverChange := fun _ _ hstep =>
  step_built buildsUp_keepsLocked (fun s _ _ => ⟨buildsUp_keepsLocked.refl s, buildsUp_keepsLocked.refl s⟩)
    buildsUp_keepsLocked.refl hstep

/-- Settles O57: what is kept by `sameControl_of_step`, the NMI entry by `step_of_nmi`. -/
theorem hostOwnedStateIsKept : Obligations.HostOwnedStateIsKept := by
  intro s t hstep
  obtain ⟨hrun, -⟩ := step_cases hstep
  obtain ⟨hcfg, hrunState, hproceed, hirq, hnmi, -⟩ := sameControl_of_step hstep
  refine ⟨hcfg, hrunState.trans hrun, hproceed, hirq, hnmi, fun hpending => ?_⟩
  exact Host.Outcome.next.inj (hstep.symm.trans (step_of_nmi hrun hpending))

/-- Settles O58: an interrupt entry always has a next state, and so has an instruction that `exec_next` covers. -/
theorem runningMachineNeverStops : Obligations.RunningMachineNeverStops := by
  intro s hrun hpolicy
  have hnext : ∃ t, step s = .next t := by
    obtain hnmi | ⟨hnmi, hirq, hi⟩ | hfetch := State.running_cases hrun
    · exact ⟨_, step_of_nmi hrun hnmi⟩
    · exact ⟨_, step_of_irq hrun hnmi hirq hi⟩
    · have hexec : ∃ u, exec (decodeAt s) (s.fetchInstr (decodeAt s).operandBytes) = .next u :=
        exec_next (by rw [State.fetchInstr_cfg]; exact hpolicy.imp_right (decodeBytes_ne_fallbackEntry _ _))
      obtain ⟨u, hu⟩ := hexec
      exact ⟨u.emit _, by rw [step_of_fetches hfetch, hu, finishStep]⟩
  obtain ⟨t, ht⟩ := hnext
  obtain ⟨hcfg, hrunState, -⟩ := hostOwnedStateIsKept s t ht
  exact ⟨t, ht, hrunState, hcfg⟩

/-- Settles O55: a host write and an image load keep the form by the laws of memory; the rest leave memory alone,
or empty it. -/
theorem resetStateIsCanonical : Obligations.ResetStateIsCanonical := by
  refine ⟨rfl, fun s h hwf => ?_⟩
  cases h with
  | write a v => exact State.write_wf a v hwf
  | setIrqLine _ | requestNmi | clearProceed | reset | start _ => exact hwf
  | clear => rfl
  | loadImage bytes offset lockFlag => exact State.act_loadImage_wf bytes offset lockFlag hwf

/-- Settles O53: between the events of the fetch and `just-executed` there are only accesses, those of the operand
bytes and those of the instruction. -/
theorem eventsBracketTheInstruction : Obligations.EventsBracketTheInstruction := by
  intro s t hfetch hstep
  rw [step_of_fetches hfetch] at hstep
  obtain ⟨u, hexec, rfl⟩ := finishStep_eq_next hstep
  obtain ⟨l, hl, hu⟩ := exec_built buildsUp_emitsAccesses hexec
  rw [State.fetchInstr_eq s (operandBytes_le_two (decodeAt s))] at hu
  refine ⟨l ++ operandReads s (decodeAt s).operandBytes, fun e he => ?_, by simp [hu]⟩
  exact (List.mem_append.mp he).elim (hl e) (isAccess_operandReads s _ e)

end Sys2Proof.Proofs
end

section
/-! SUPPORT. Decimal ADC and SBC (R175 to R179): the statements' algorithm is the model's, its result is decimal
arithmetic on valid BCD, then the statements. -/

namespace Sys2Proof.Machine

open Sys2Proof.Claims

/-! ### The algorithm -/

theorem bcdSum_eq_decAddTotal (a m : Byte) (c : Bool) : bcdSum a m c = decAddTotal a m c := rfl

theorem bcdDiff_eq_decSubTotal (a m : Byte) (c : Bool) : bcdDiff a m c = decSubTotal a m c := rfl

/-! ### On valid BCD: a number `n` in decimal has the byte `n + 6 * (n / 10)` -/

theorem bcd_eq_ofNat (n : Nat) : bcd n = BitVec.ofNat 8 (n + 6 * (n / 10)) := by
  rw [bcd]
  congr 1
  omega

/-- Before the correction of the high digit, the digits have been added in decimal. -/
theorem highPart_add_decAddLow {a m : Byte} (c : Bool) (ha : validBcd a) (hm : validBcd m) :
    highPart a + highPart m + decAddLow a m c =
      (dec a + dec m + c.toNat) + 6 * ((dec a + dec m + c.toNat) / 10) := by
  obtain ⟨hlow, -⟩ := ha
  obtain ⟨hlow', -⟩ := hm
  have hc : c.toNat ≤ 1 := c.toNat_le
  rw [decAddLow]
  split <;> simp only [highPart, lowDigit, dec] at * <;> omega

theorem highPart_sub_decSubLow {a m : Byte} (c : Bool) (ha : validBcd a) (hm : validBcd m) :
    (highPart a : Int) - highPart m + decSubLow a m c =
      ((dec a : Int) - dec m - (1 - c.toNat)) + 6 * (((dec a : Int) - dec m - (1 - c.toNat)) / 10) := by
  obtain ⟨hlow, -⟩ := ha
  obtain ⟨hlow', -⟩ := hm
  have hc : c.toNat ≤ 1 := c.toNat_le
  rw [decSubLow]
  split <;> simp only [highPart, lowDigit, dec] at * <;> omega

theorem dec_le {b : Byte} (h : validBcd b) : dec b ≤ 99 := by
  obtain ⟨hlow, hhigh⟩ := h
  rw [dec]
  omega

/-- A sum of 100 or more leaves its hundred in the carry. -/
theorem decAddTotal_eq {a m : Byte} (c : Bool) (ha : validBcd a) (hm : validBcd m) :
    decAddTotal a m c = 256 * ((dec a + dec m + c.toNat) / 100) +
      ((dec a + dec m + c.toNat) % 100 + 6 * ((dec a + dec m + c.toNat) % 100 / 10)) := by
  have hc : c.toNat ≤ 1 := c.toNat_le
  have := dec_le ha
  have := dec_le hm
  simp only [decAddTotal, highPart_add_decAddLow c ha hm]
  split <;> omega

/-- A difference below 0 borrows a hundred, which the byte does not hold. -/
theorem decSubTotal_eq {a m : Byte} (c : Bool) (ha : validBcd a) (hm : validBcd m) :
    decSubTotal a m c = 256 * (((dec a : Int) - dec m - (1 - c.toNat)) / 100) +
      (((dec a : Int) - dec m - (1 - c.toNat)) % 100 +
        6 * (((dec a : Int) - dec m - (1 - c.toNat)) % 100 / 10)) := by
  have hc : c.toNat ≤ 1 := c.toNat_le
  have := dec_le ha
  have := dec_le hm
  simp only [decSubTotal, highPart_sub_decSubLow c ha hm]
  split <;> omega

theorem decAddByte_eq_bcd {a m : Byte} (c : Bool) (ha : validBcd a) (hm : validBcd m) :
    decAddByte a m c = bcd ((dec a + dec m + c.toNat) % 100) := by
  apply BitVec.eq_of_toNat_eq
  rw [decAddByte, bcd_eq_ofNat, decAddTotal_eq c ha hm, BitVec.toNat_ofNat, BitVec.toNat_ofNat]
  omega

theorem decAddCarry_eq {a m : Byte} (c : Bool) (ha : validBcd a) (hm : validBcd m) :
    decAddCarry a m c = decide (100 ≤ dec a + dec m + c.toNat) := by
  rw [decAddCarry, decide_eq_decide, decAddTotal_eq c ha hm]
  omega

theorem decSubByte_eq_bcd {a m : Byte} (c : Bool) (ha : validBcd a) (hm : validBcd m) :
    decSubByte a m c = bcd (((dec a : Int) - dec m - (1 - c.toNat)) % 100).toNat := by
  apply BitVec.eq_of_toNat_eq
  rw [decSubByte, bcd_eq_ofNat, decSubTotal_eq c ha hm, BitVec.toNat_ofInt, BitVec.toNat_ofNat]
  omega

/-- Valid BCD bytes are ordered as their numbers, so the binary carry is the decimal one. -/
theorem subCarry_eq {a m : Byte} (c : Bool) (ha : validBcd a) (hm : validBcd m) :
    subCarry a m c = decide (0 ≤ (dec a : Int) - dec m - (1 - c.toNat)) := by
  obtain ⟨ha0, ha1⟩ := ha
  obtain ⟨hm0, hm1⟩ := hm
  have hc : c.toNat ≤ 1 := c.toNat_le
  rw [subCarry, decide_eq_decide]
  simp only [subDiff, dec]
  omega

end Sys2Proof.Machine

namespace Sys2Proof.Claims

open Sys2Proof.Machine

theorem ruleFlags_eq (r : Byte) (v : Bool) : ruleFlags r v = { n := r.msb, v := v, z := r == 0 } := by
  have zero : decide (r.toNat = 0) = (r == 0) := by
    rw [Bool.eq_iff_iff]
    simp [BitVec.toNat_eq]
  rw [ruleFlags, zero, BitVec.msb_eq_getLsbD_last]

theorem adc_eq_withRegs_of_decimal {s : State} (src : Source) (hd : s.p.d = true) :
    s.adc src = withRegs (s.noteSource src) (decRegs s (decAddByte s.a (src.value s) s.p.c)
      (decAddCarry s.a (src.value s) s.p.c)
      (decimalNVZ s.cfg false s.a (src.value s) s.p.c (decAddByte s.a (src.value s) s.p.c))) := by
  rw [decRegs, ← regsOf_noteSource s src]
  simp only [State.adc]
  rw [if_pos hd]
  rfl

theorem sbc_eq_withRegs_of_decimal {s : State} (src : Source) (hd : s.p.d = true) :
    s.sbc src = withRegs (s.noteSource src) (decRegs s (decSubByte s.a (src.value s) s.p.c)
      (subCarry s.a (src.value s) s.p.c)
      (decimalNVZ s.cfg true s.a (src.value s) s.p.c (decSubByte s.a (src.value s) s.p.c))) := by
  rw [decRegs, ← regsOf_noteSource s src]
  simp only [State.sbc]
  rw [if_pos hd]
  rfl

theorem decimalPenalty_eq_decimalExtra {s : State} (hd : s.p.d = true) :
    (if s.cfg.penaltyCycles then s.decimalPenalty else 0) = decimalExtra s := by
  cases hv : s.cfg.variant <;> simp [State.decimalPenalty, decimalExtra, penalty, hd, hv]

end Sys2Proof.Claims

namespace Sys2Proof.Proofs

open Sys2Proof.Machine Sys2Proof.Claims

section
variable {i : Instr} {src : Source} {op : Byte} {nmos plusP : Bool} {base : Nat} {s : State}
  (hcode : HasOpcode i op nmos) (hop : i.operand = operandOf src)
  (hrow : i.cost s.cfg.variant = ⟨base, plusP⟩) (hd : s.p.d = true)
include hcode hop hrow hd

theorem addsDecimal_of_adc (hexec : exec i s = complete i s.decimalPenalty s (s.adc src)) :
    AddsDecimal op nmos i src base plusP s := by
  simp only [AddsDecimal, bcdSum_eq_decAddTotal]
  refine ⟨.of_withRegs hcode hop hrow (decimalPenalty_eq_decimalExtra hd) ?regs, fun hrule => ?flags⟩
  case regs =>
    rw [hexec, adc_eq_withRegs_of_decimal src hd]
    rfl
  case flags =>
    rw [ruleFlags_eq, decimalNVZ, hrule, addRegs_eq]
    rfl

theorem subtractsDecimal_of_sbc (hexec : exec i s = complete i s.decimalPenalty s (s.sbc src)) :
    SubtractsDecimal op nmos i src base plusP s := by
  simp only [SubtractsDecimal, bcdDiff_eq_decSubTotal]
  refine ⟨.of_withRegs hcode hop hrow (decimalPenalty_eq_decimalExtra hd) ?regs, fun hrule => ?flags⟩
  case regs =>
    simp only [subRegs_eq]
    rw [hexec, sbc_eq_withRegs_of_decimal src hd]
    rfl
  case flags =>
    rw [ruleFlags_eq, decimalNVZ, hrule, subRegs_eq]
    rfl

end

/-! ### The statements -/

/-- Settles O10: each form's row and arm, through `addsDecimal_of_adc`. -/
theorem adcDecimalCorrectsNibbles : Obligations.AdcDecimalCorrectsNibbles := by
  intro v z w s hd
  refine ⟨?_, ?_, ?_, ?_, ?_, ?_, ?_, ?_, ?_⟩ <;>
    exact addsDecimal_of_adc ⟨rfl, rfl, rfl, rfl⟩ rfl rfl hd rfl

/-- Settles O11: each form's row and arm, through `subtractsDecimal_of_sbc`. -/
theorem sbcDecimalCorrectsNibbles : Obligations.SbcDecimalCorrectsNibbles := by
  intro v z w s hd
  refine ⟨?_, ?_, ?_, ?_, ?_, ?_, ?_, ?_, ?_⟩ <;>
    exact subtractsDecimal_of_sbc ⟨rfl, rfl, rfl, rfl⟩ rfl rfl hd rfl

/-- Settles O12: A and C after the immediate forms, as decimal arithmetic on the digits. -/
theorem decimalModeIsDecimalArithmetic : Obligations.DecimalModeIsDecimalArithmetic := by
  intro v s hd ha hv
  refine ⟨⟨_, congrArg (complete (.adcImm v) s.decimalPenalty s) (adc_eq_withRegs_of_decimal (.imm v) hd), ?_, ?_⟩,
    ⟨_, congrArg (complete (.sbcImm v) s.decimalPenalty s) (sbc_eq_withRegs_of_decimal (.imm v) hd), ?_, ?_⟩⟩
  · exact decAddByte_eq_bcd s.p.c ha hv
  · exact decAddCarry_eq s.p.c ha hv
  · exact decSubByte_eq_bcd s.p.c ha hv
  · exact subCarry_eq s.p.c ha hv

end Sys2Proof.Proofs
end

section
/-! SUPPORT. Jumps (R252), and the byte of P that PHP pushes and PLP pulls (R272, R273), then the statements. -/

namespace Sys2Proof.Claims

open Sys2Proof.Machine

/-! ### Words -/

theorem wordAt_eq_peekWord (s : State) (a : Word) : wordAt s a = s.peekWord a :=
  (joinBytes_eq_ofNat _ _).symm

theorem add_zext_eq_ofNat (w : Word) (x : Byte) : w + zext x = BitVec.ofNat 16 (w.toNat + x.toNat) := by
  rw [BitVec.ofNat_add, BitVec.ofNat_toNat, BitVec.setWidth_eq, ← zext_eq_ofNat]

/-! ### Jumps -/

/-- On NMOS6502 the high byte of the pointer comes from the page of its low byte (R123). -/
theorem indirectHigh_of_nmos {s : State} (w : Word) (hv : s.cfg.variant = .nmos6502) :
    s.indirectHigh w = BitVec.ofNat 16 (w.toNat / 256 * 256 + (w.toNat % 256 + 1) % 256) := by
  apply BitVec.eq_of_toNat_eq
  rw [State.indirectHigh, hv]
  simp only [joinBytes_eq_ofNat, highByte_eq_ofNat, lowByte_eq_ofNat, BitVec.toNat_add, BitVec.toNat_ofNat,
    BitVec.ofNat_eq_ofNat]
  omega

theorem indirectHigh_of_cmos {s : State} (w : Word) (hv : s.cfg.variant = .cmos65c02) :
    s.indirectHigh w = w + 1 := by
  rw [State.indirectHigh, hv]

/-- JMP Indirect emits two reads and writes PC. -/
theorem jumpIndirect_eq (s : State) (w : Word) :
    s.jumpIndirect w = withRegs (withEvents s [rd s (s.indirectHigh w), rd s w]) { regsOf s with
      pc := BitVec.ofNat 16 (256 * (s.peek (s.indirectHigh w)).toNat + (s.peek w).toNat) } := by
  rw [← joinBytes_eq_ofNat]
  rfl

theorem jumpIndexedIndirect_eq (s : State) (w : Word) :
    s.jumpIndexedIndirect w = withRegs
      (withEvents s [rd s (w + zext s.x + 1), rd s (w + zext s.x)])
      { regsOf s with pc := wordAt s (w + zext s.x) } := by
  rw [wordAt_eq_peekWord]
  rfl

/-! ### The status bytes that are pushed -/

theorem pushedByte_getLsbD (p : Status) (b : Bool) (k : Nat) :
    (p.pushedByte b).getLsbD k = if k = 4 then b else p.toByte.getLsbD k := by
  rw [Status.pushedByte, Status.getLsbD_toByte, Status.getLsbD_toByte]
  match k with
  | 0 | 1 | 2 | 3 | 4 | 5 | 6 | 7 => rfl
  | k + 8 => simp

theorem pushedByte_true (p : Status) : p.pushedByte true = p.toByte ||| 0x30 := by
  apply BitVec.eq_of_getLsbD_eq
  intro k hk
  rw [pushedByte_getLsbD, BitVec.getLsbD_or]
  match k, hk with
  | 0, _ | 1, _ | 2, _ | 3, _ | 4, _ | 5, _ | 6, _ | 7, _ => simp

end Sys2Proof.Claims

namespace Sys2Proof.Proofs

open Sys2Proof.Machine Sys2Proof.Claims

/-! ### The statements -/

/-- Settles O25: each form writes PC after its reads; the variants differ in the address of the high byte. -/
theorem jmpGoesToItsTarget : Obligations.JmpGoesToItsTarget := by
  intro w s
  refine ⟨?abs, fun hv => ?nmos, fun hv => ?cmos, ?indexed⟩
  case abs => exact .of_withRegs ⟨rfl, rfl, rfl, rfl⟩ rfl rfl
  case nmos =>
    rw [← indirectHigh_of_nmos w hv]
    exact .of_withEvents ⟨rfl, rfl, rfl, rfl⟩ (cost_eq_base (by rw [hv]; rfl))
      (congrArg (complete (.jmpInd w) 0 s) (jumpIndirect_eq s w))
  case cmos =>
    rw [wordAt, ← indirectHigh_of_cmos w hv]
    exact .of_withEvents ⟨rfl, rfl, rfl, rfl⟩ (cost_eq_base (by rw [hv]; rfl))
      (congrArg (complete (.jmpInd w) 0 s) (jumpIndirect_eq s w))
  case indexed =>
    simp only [← add_zext_eq_ofNat]
    exact .of_withEvents ⟨rfl, rfl, rfl, rfl⟩ (cost_eq_base rfl)
      (congrArg (complete (.jmpAbsXInd w) 0 s) (jumpIndexedIndirect_eq s w))

/-- Settles O29: PHP is a push, PLP a pull into P; the status is the pulled byte with Reserved set. -/
theorem phpPlpMoveStatus : Obligations.PhpPlpMoveStatus := by
  intro s
  rw [← pushedByte_true, ← popValue_eq_peek]
  exact ⟨.of_push ⟨rfl, rfl, rfl, rfl⟩ rfl rfl, Status.ofByte s.popValue, Status.toByte_ofByte _,
    .of_popped ⟨rfl, rfl, rfl, rfl⟩ rfl rfl⟩

end Sys2Proof.Proofs
end

section
/-! SUPPORT. The one entry operation of BRK, the fallback, NMI and IRQ (R292, R294, R311 to R314), then the
statements. -/

namespace Sys2Proof.Claims

open Sys2Proof.Machine

/-! ### The status byte of a hardware interrupt -/

theorem pushedByte_eq_pushedStatus (s : State) : s.p.pushedByte s.cfg.intPushedB = pushedStatus s := by
  apply BitVec.eq_of_getLsbD_eq
  intro k hk
  rw [pushedByte_getLsbD, pushedStatus, BitVec.getLsbD_or, BitVec.getLsbD_and]
  match k, hk with
  | 0, _ | 1, _ | 2, _ | 3, _ | 4, _ | 5, _ | 6, _ | 7, _ => cases s.cfg.intPushedB <;> simp

/-! ### Three bytes on the stack -/

theorem stackAt_injective : Function.Injective stackAt := by
  intro a b h
  have hnat := congrArg BitVec.toNat h
  have := a.isLt
  have := b.isLt
  simp only [stackAt, BitVec.toNat_ofNat] at hnat
  exact BitVec.eq_of_toNat_eq (by omega)

theorem stackAt_sub_two_ne (sp : Byte) : stackAt (sp - 2) ≠ stackAt sp := fun h => by
  have := stackAt_injective h
  bv_omega

/-- No push overwrites an earlier one, since the three bytes differ. -/
theorem pushesThree_push_push_push (s : State) (hi lo st : Byte) :
    PushesThree hi lo st s (((s.push hi).push lo).push st) := by
  intro b
  have htwo : s.sp - 1 - 1 = s.sp - 2 := BitVec.sub_sub ..
  have hlast : stackAt (s.sp - 2) ≠ stackAt (s.sp - 1) := htwo ▸ stackAt_sub_one_ne (s.sp - 1)
  rw [push_peek_eq, pushesTwo_push_push s hi lo b]
  simp only [State.push_sp, State.push_isLocked, htwo]
  cases s.isLocked b with
  | true => simp
  | false =>
    simp only [Bool.false_eq_true, if_false]
    by_cases hb : b = stackAt (s.sp - 2)
    · rw [if_pos hb, hb, if_neg (stackAt_sub_two_ne s.sp), if_neg hlast, if_pos rfl]
    · simp only [if_neg hb]

theorem push_push_push_trace (s : State) (hi lo st : Byte) :
    (((s.push hi).push lo).push st).trace =
      wr s (stackAt (s.sp - 2)) st :: wr s (stackAt (s.sp - 1)) lo :: wr s (stackAt s.sp) hi :: s.trace := by
  rw [push_trace, push_push_trace]
  simp [wr, BitVec.sub_sub]

/-! ### Taking an exception (R314) -/

theorem enters_interrupt (s : State) (vec : Word) (b : Bool) :
    Enters s.pc vec (s.p.pushedByte b) s (s.interrupt vec b) := by
  refine ⟨?regs, ?mem, ?trace⟩
  case regs => simp [regsOf, State.interrupt_pc, wordAt_eq_peekWord, BitVec.sub_sub]
  case mem =>
    intro c
    rw [State.interrupt_peek, ← highByte_eq_ofNat, ← lowByte_eq_ofNat]
    exact pushesThree_push_push_push s _ _ _ c
  case trace =>
    rw [← highByte_eq_ofNat, ← lowByte_eq_ofNat, ← push_push_push_trace]
    simp [State.interrupt, rd]

/-- The software interrupt is an entry with PC + 1 as the return address and Break set. -/
theorem enters_softwareInterrupt (s : State) :
    Enters (s.pc + 1) 0xFFFE (s.p.toByte ||| 0x30) s s.softwareInterrupt := by
  rw [← pushedByte_true]
  exact enters_interrupt (s.withPc (s.pc + 1)) irqVector true

theorem takesSoftwareInterrupt_of_complete {i : Instr} {s : State} (hrow : i.cost s.cfg.variant = ⟨7, false⟩)
    (hexec : exec i s = complete i 0 s s.softwareInterrupt) : TakesSoftwareInterrupt i s := by
  rw [complete_eq, cost_eq_base hrow] at hexec
  exact ⟨_, hexec, enters_softwareInterrupt s, by simp [State.softwareInterrupt],
    by simp [SameControl, State.softwareInterrupt]⟩

end Sys2Proof.Claims

namespace Sys2Proof.Proofs

open Sys2Proof.Machine Sys2Proof.Claims

/-! ### The statements -/

/-- Settles O32, by `takesSoftwareInterrupt_of_complete`. -/
theorem brkTakesSoftwareInterrupt : Obligations.BrkTakesSoftwareInterrupt := fun _ =>
  ⟨⟨rfl, rfl, rfl, rfl⟩, takesSoftwareInterrupt_of_complete rfl rfl⟩

/-- Settles O34: under AsBRK the fallback is the operation of BRK, at the same cost. -/
theorem illegalOpcodesActAsBrk : Obligations.IllegalOpcodesActAsBrk := by
  intro op s hpolicy
  have hnmos : exec (.illNmos op) s = complete (.illNmos op) 0 s s.softwareInterrupt :=
    State.fallback_of_asBRK _ op hpolicy
  have hcmos : exec (.illCmos op) s = complete (.illCmos op) 0 s s.softwareInterrupt :=
    State.fallback_of_asBRK _ op hpolicy
  exact ⟨takesSoftwareInterrupt_of_complete rfl hnmos, hnmos, takesSoftwareInterrupt_of_complete rfl hcmos, hcmos⟩

/-- Settles O37: the step is `enterNmi`, an entry from the state with the latch cleared. -/
theorem nmiEntryComesFirst : Obligations.NmiEntryComesFirst := by
  intro s hrun hnmi
  have henter := enters_interrupt (s.withNmiPending false) nmiVector s.cfg.intPushedB
  rw [← pushedByte_eq_pushedStatus]
  exact ⟨_, step_of_nmi hrun hnmi, henter, by simp [State.enterNmi], by simp [State.enterNmi],
    by simp [SameControl, State.enterNmi]⟩

/-- Settles O38: the step is `enterIrq`, an entry that leaves the line alone. -/
theorem irqEntryWhenUnmasked : Obligations.IrqEntryWhenUnmasked := by
  intro s hrun hnmi hirq hi
  rw [← pushedByte_eq_pushedStatus]
  exact ⟨_, step_of_irq hrun hnmi hirq hi, enters_interrupt s irqVector s.cfg.intPushedB,
    by simp [State.enterIrq], by simp [SameControl, State.enterIrq]⟩

end Sys2Proof.Proofs
end

section
/-! SUPPORT. Memory accesses and the host's side: Read and Write (R42, R43), `reset()` (R351), `start` (R100) and
image loads (R44, R54), then the statements. -/

namespace Sys2Proof.Machine

/-! ### Writes (R43) -/

theorem State.write_of_locked {s : State} {a : Word} (v : Byte) (h : s.isLocked a = true) :
    s.write a v = s.emit (.invalidWrite a v) := by
  rw [State.write, if_pos h]

theorem State.write_of_unlocked {s : State} {a : Word} (v : Byte) (h : s.isLocked a = false) :
    s.write a v = (s.withMem (s.mem.write a.toNat v)).emit (.byteWritten a v) := by
  simp [State.write, h]

/-! ### Image loads (R44) -/

/-- A load stores byte `b - a` of the image at address `b`, as far as the image goes. -/
theorem Memory.read_load (m : Memory) (a b : Nat) (bytes : List Byte) :
    (m.load a bytes).read b = if a ≤ b then bytes.getD (b - a) (m.read b) else m.read b := by
  induction bytes generalizing m a with
  | nil => simp [Memory.load]
  | cons v bytes ih =>
    rw [Memory.load, ih, Memory.read_write]
    obtain hlt | rfl | hgt := Nat.lt_trichotomy b a
    · simp [hlt.ne, Nat.not_le_of_lt hlt, Nat.not_le_of_lt (Nat.lt_succ_of_lt hlt)]
    · simp
    · obtain ⟨k, rfl⟩ : ∃ k, b = a + 1 + k := Nat.exists_eq_add_of_le hgt
      have hk : a + 1 + k - a = k + 1 := by omega
      have hne : a + 1 + k ≠ a := by omega
      have hle : a ≤ a + 1 + k := by omega
      simp [hk, hne, hle]

theorem LockMask.locked_addRange (l : LockMask) (a n b : Nat) :
    (l.addRange a n).locked b = (decide (a ≤ b ∧ b < a + n) || l.locked b) := by
  induction n generalizing l a with
  | zero => simp [LockMask.addRange]
  | succ n ih =>
    have hrange : (decide (a + 1 ≤ b ∧ b < a + 1 + n) || decide (b = a)) = decide (a ≤ b ∧ b < a + (n + 1)) := by
      rw [← Bool.decide_or, decide_eq_decide]
      omega
    rw [LockMask.addRange, ih, LockMask.locked_add, ← Bool.or_assoc, hrange]

/-- What a load that fits leaves: memory with the image in it, and the lock mask with its range if asked. -/
def State.loaded (s : State) (bytes : List Byte) (offset : Word) (lockFlag : Bool) : State :=
  { s with
    mem := s.mem.load offset.toNat bytes
    lock := if lockFlag then s.lock.addRange offset.toNat bytes.length else s.lock }

theorem State.loadImage_of_fits {s : State} {bytes : List Byte} {offset : Word} (lockFlag : Bool)
    (hfit : offset.toNat + bytes.length ≤ 65536) :
    s.loadImage bytes offset lockFlag = .ok (bytes.length, s.loaded bytes offset lockFlag) := by
  rw [State.loadImage, if_neg (Nat.not_lt_of_le hfit)]
  cases lockFlag <;> rfl

theorem State.loaded_peek (s : State) (bytes : List Byte) (offset : Word) (lockFlag : Bool) (b : Word) :
    (s.loaded bytes offset lockFlag).peek b =
      if offset.toNat ≤ b.toNat then bytes.getD (b.toNat - offset.toNat) (s.peek b) else s.peek b :=
  s.mem.read_load offset.toNat b.toNat bytes

theorem State.loaded_isLocked (s : State) (bytes : List Byte) (offset : Word) (lockFlag : Bool) (b : Word) :
    (s.loaded bytes offset lockFlag).isLocked b =
      ((lockFlag && decide (offset.toNat ≤ b.toNat ∧ b.toNat < offset.toNat + bytes.length)) || s.isLocked b) := by
  cases lockFlag with
  | false => rfl
  | true => exact s.lock.locked_addRange offset.toNat bytes.length b.toNat

end Sys2Proof.Machine

namespace Sys2Proof.Proofs

open Sys2Proof.Machine Sys2Proof.Claims

/-! ### The statements -/

/-- Settles O44: a read emits its event; a write stores and emits, or is refused and emits. -/
theorem readAndWriteEffects : Obligations.ReadAndWriteEffects := by
  intro s a v
  refine ⟨rfl, fun hlock => ⟨fun b => by simp [State.write_peek, hlock], ?_⟩, State.write_of_locked v⟩
  rw [State.write_of_unlocked v hlock]
  rfl

/-- Settles O46: the registers come from the parameters, PC from the vector, which is read in the same memory. -/
theorem resetLoadsVectorAndRegisters : Obligations.ResetLoadsVectorAndRegisters := by
  intro s
  refine ⟨Status.ofByte s.cfg.resetP, Status.toByte_ofByte _, ?_⟩
  rw [wordAt_eq_peekWord]
  rfl

/-- Settles O47, by evaluation; the empty memory reads 0 and has no lock. -/
theorem resetStateIsPowerOnThenReset : Obligations.ResetStateIsPowerOnThenReset :=
  ⟨rfl, rfl, rfl, rfl, rfl, rfl, rfl, rfl, rfl, rfl, rfl,
    fun a => ⟨Memory.read_nil a.toNat, LockMask.locked_nil a.toNat⟩⟩

/-- Settles O48: the statement is the definition of `start(address)`. -/
theorem startSetsPcAndZeroesCycles : Obligations.StartSetsPcAndZeroesCycles := fun _ _ => rfl

/-- Settles O49, by what a byte reads and whether it is locked after a load; a locked byte refuses a write. -/
theorem loadImageStoresAndLocks : Obligations.LoadImageStoresAndLocks := by
  intro s bytes offset lockFlag
  refine ⟨fun hlong => if_pos hlong, fun hfit => ⟨_, State.loadImage_of_fits lockFlag hfit, rfl, fun b => ?_⟩⟩
  dsimp only
  refine ⟨fun hinside => ⟨?bytes, ?lock, fun hflag v c => ?write⟩, fun houtside => ⟨?other, ?otherLock⟩⟩
  case bytes =>
    obtain ⟨hlow, hhigh⟩ := hinside
    have hindex : b.toNat - offset.toNat < bytes.length := by omega
    simp [State.loaded_peek, hlow, hindex]
  case lock => simp [State.loaded_isLocked, hinside]
  case write =>
    have hlocked : (s.loaded bytes offset lockFlag).isLocked b = true := by
      simp [State.loaded_isLocked, hinside, hflag]
    rw [State.write_of_locked v hlocked, State.emit_peek]
  case other =>
    rw [State.loaded_peek]
    split
    · rw [List.getD_eq_default]
      omega
    · rfl
  case otherLock => simp [State.loaded_isLocked, houtside]

end Sys2Proof.Proofs
end

section
/-! SUPPORT. `run()` under a schedule of host actions (R103 to R105): one turn of its loop, and how it ends; then
the statement. -/

namespace Sys2Proof.Machine

theorem runLoop_of_cleared {s : State} (sched : List (List HostAction)) (h : s.proceed = false) :
    runLoop sched s = .finished s.halt := by
  cases sched <;> simp [runLoop, h]

theorem runLoop_of_step {s t : State} (actions : List HostAction) (rest : List (List HostAction))
    (hproceed : s.proceed = true) (hstep : step s = .next t) :
    runLoop (actions :: rest) s = runLoop rest (t.acts actions) := by
  simp [runLoop, hproceed, hstep]

theorem State.hostRun_of_running {s : State} (sched : List (List HostAction)) (h : s.runState = .running) :
    s.hostRun sched = runLoop sched (s.emit .runStarting) := by
  simp [State.hostRun, h]

/-- How the loop can end, or where it stands when its schedule is used up. -/
theorem runLoop_cases (sched : List (List HostAction)) (s : State) :
    (∃ u : State, runLoop sched s = .finished u.halt ∧ u.proceed = false) ∨
    (∃ u : State, runLoop sched s = .running u ∧ u.proceed = true) ∨ ∃ r, runLoop sched s = .refused r := by
  induction sched generalizing s with
  | nil =>
    cases hproceed : s.proceed with
    | false => exact .inl ⟨s, runLoop_of_cleared [] hproceed, hproceed⟩
    | true => exact .inr (.inl ⟨s, by simp [runLoop, hproceed], hproceed⟩)
  | cons actions rest ih =>
    cases hproceed : s.proceed with
    | false => exact .inl ⟨s, runLoop_of_cleared _ hproceed, hproceed⟩
    | true =>
      cases hstep : step s with
      | next t =>
        rw [runLoop_of_step actions rest hproceed hstep]
        exact ih (t.acts actions)
      | refused r => exact .inr (.inr ⟨r, by simp [runLoop, hproceed, hstep]⟩)
      | fault f => nomatch f

theorem runLoop_eq_finished {sched : List (List HostAction)} {s t : State} (h : runLoop sched s = .finished t) :
    ∃ u : State, u.proceed = false ∧ t = u.halt := by
  obtain ⟨u, hu, hproceed⟩ | ⟨u, hu, -⟩ | ⟨r, hr⟩ := runLoop_cases sched s
  · exact ⟨u, hproceed, RunResult.finished.inj (h.symm.trans hu)⟩
  · nomatch h.symm.trans hu
  · nomatch h.symm.trans hr

theorem runLoop_eq_running {sched : List (List HostAction)} {s t : State} (h : runLoop sched s = .running t) :
    t.proceed = true := by
  obtain ⟨u, hu, -⟩ | ⟨u, hu, hproceed⟩ | ⟨r, hr⟩ := runLoop_cases sched s
  · nomatch h.symm.trans hu
  · exact RunResult.running.inj (h.symm.trans hu) ▸ hproceed
  · nomatch h.symm.trans hr

end Sys2Proof.Machine

namespace Sys2Proof.Proofs

open Sys2Proof.Machine

/-- Settles O51: one turn of the loop by `runLoop_of_step`, its ends by `runLoop_of_cleared` and `runLoop_cases`. -/
theorem runEndsHaltedWhenProceedIsCleared : Obligations.RunEndsHaltedWhenProceedIsCleared := by
  intro s sched hrun
  simp only [State.hostRun_of_running _ hrun]
  refine ⟨fun hproceed => runLoop_of_cleared sched hproceed,
    fun t actions rest hproceed hstep => runLoop_of_step actions rest hproceed hstep,
    fun u t actions rest hproceed hstep => runLoop_of_step actions rest hproceed hstep,
    fun u hproceed => runLoop_of_cleared sched hproceed, fun t hproceed hstep => ?clear,
    fun t hfinished => ?finished, fun t hrunning => runLoop_eq_running hrunning⟩
  case clear =>
    rw [runLoop_of_step (s := s.emit .runStarting) _ _ hproceed hstep]
    exact runLoop_of_cleared [] rfl
  case finished =>
    obtain ⟨u, hproceed, rfl⟩ := runLoop_eq_finished hfinished
    exact ⟨rfl, hproceed, rfl⟩

end Sys2Proof.Proofs
end

section
/-! SUPPORT. The layout of P (R16), the effective addresses (R112 to R120), and the order of the accesses of the
indirect modes (R126), then the statements. -/

namespace Sys2Proof.Claims

open Sys2Proof.Machine

/-! ### Addresses in page zero -/

theorem zext_add_eq_ofNat (z x : Byte) : zext (z + x) = BitVec.ofNat 16 ((z.toNat + x.toNat) % 256) := by
  rw [zext_eq_ofNat, BitVec.toNat_add]

theorem peekWordZP_eq_ofNat (s : State) (z : Byte) :
    s.peekWordZP z = BitVec.ofNat 16
      (256 * (s.peek (BitVec.ofNat 16 ((z.toNat + 1) % 256))).toNat + (s.peek (BitVec.ofNat 16 z.toNat)).toNat) := by
  rw [State.peekWordZP, joinBytes_eq_ofNat, zext_add_eq_ofNat, zext_eq_ofNat]
  rfl

/-- Indexing and stepping to the high byte both wrap inside page zero (D19). -/
theorem peekWordZP_add_eq_ofNat (s : State) (z x : Byte) :
    s.peekWordZP (z + x) = BitVec.ofNat 16
      (256 * (s.peek (BitVec.ofNat 16 ((z.toNat + x.toNat + 1) % 256))).toNat +
        (s.peek (BitVec.ofNat 16 ((z.toNat + x.toNat) % 256))).toNat) := by
  rw [peekWordZP_eq_ofNat, BitVec.toNat_add, Nat.mod_add_mod]

/-! ### The accesses of an instruction that reads its operand -/

theorem adc_trace (s : State) (src : Source) : (s.adc src).trace = (s.noteSource src).trace := by
  unfold State.adc
  split <;> rfl

theorem sbc_trace (s : State) (src : Source) : (s.sbc src).trace = (s.noteSource src).trace := by
  unfold State.sbc
  split <;> rfl

theorem accesses_of_source {i : Instr} {m : MemOperand} {extra : Nat} {s t : State}
    (hexec : exec i s = complete i extra s t) (htrace : t.trace = (s.noteSource (.mem m)).trace) :
    Accesses i s (rd s (m.ea s) :: pointerEvents m s) :=
  ⟨_, hexec, htrace.trans (noteSource_trace s (.mem m))⟩

theorem accesses_of_store {i : Instr} {m : MemOperand} {v : Byte} {s : State}
    (hexec : exec i s = complete i 0 s (s.store m v)) :
    Accesses i s (wr s (m.ea s) v :: pointerEvents m s) :=
  ⟨_, hexec, by simp [State.store, write_trace, resolve_trace, wr]⟩

end Sys2Proof.Claims

namespace Sys2Proof.Proofs

open Sys2Proof.Machine Sys2Proof.Claims

/-! ### The statements -/

/-- Settles O2: the eight bits of `Status.getLsbD_toByte`. -/
theorem statusBitPositions : Obligations.StatusBitPositions := fun p =>
  ⟨p.getLsbD_toByte 7, p.getLsbD_toByte 6, p.getLsbD_toByte 5, p.getLsbD_toByte 4, p.getLsbD_toByte 3,
    p.getLsbD_toByte 2, p.getLsbD_toByte 1, p.getLsbD_toByte 0⟩

/-- Settles O3: each mode's address, with the model's words written as numbers. -/
theorem effectiveAddresses : Obligations.EffectiveAddresses := by
  intro s z w
  refine ⟨zext_eq_ofNat z, zext_add_eq_ofNat z s.x, zext_add_eq_ofNat z s.y, rfl, add_zext_eq_ofNat w s.x,
    add_zext_eq_ofNat w s.y, peekWordZP_add_eq_ofNat s z s.x, ?indY, peekWordZP_eq_ofNat s z⟩
  case indY => rw [BitVec.ofNat_add, ← peekWordZP_eq_ofNat, ← zext_eq_ofNat]; rfl

/-- Settles O52: the seven reading instructions emit the events of their operand, STA a write after those of its
pointer; `pointerEvents` lists the high byte first because the newest event stands first. -/
theorem pointersReadLowByteFirst : Obligations.PointersReadLowByteFirst := by
  intro s z
  dsimp only
  simp only [List.forall_mem_cons]
  refine ⟨?xInd, ?indY, ?zpInd, accesses_of_store rfl, accesses_of_store rfl, accesses_of_store rfl⟩
  case xInd | indY | zpInd =>
    exact ⟨accesses_of_source rfl rfl, accesses_of_source rfl (adc_trace s _),
      accesses_of_source rfl (sbc_trace s _), accesses_of_source rfl rfl, accesses_of_source rfl rfl,
      accesses_of_source rfl rfl, accesses_of_source rfl rfl, List.forall_mem_nil _⟩

end Sys2Proof.Proofs
end

section
/-! SUPPORT. What VARIANT changes (D1, D25): the shared operations commute with `withVariant`, so that an instruction
of both variants differs in its cycles alone, but for the pointer of JMP Indirect; then the statement. -/

namespace Sys2Proof.Claims

open Sys2Proof.Machine

/-! ### The shared operations do not look at VARIANT -/

section
variable (s : State) (v : Variant)

theorem write_withVariant (a : Word) (b : Byte) : (withVariant s v).write a b = withVariant (s.write a b) v := by
  obtain ⟨hl, hw⟩ | ⟨hl, hw⟩ := s.write_cases a b
  · rw [hw, State.write_of_locked b (s := withVariant s v) hl]
    rfl
  · rw [hw, State.write_of_unlocked b (s := withVariant s v) hl]
    rfl

theorem push_withVariant (b : Byte) : (withVariant s v).push b = withVariant (s.push b) v :=
  congrArg (State.withSp · (s.sp - 1)) (write_withVariant s v (stackAddr s.sp) b)

theorem callSubroutine_withVariant (w : Word) :
    (withVariant s v).callSubroutine w = withVariant (s.callSubroutine w) v := by
  simp only [State.callSubroutine, push_withVariant]
  rfl

theorem interrupt_withVariant (vec : Word) (b : Bool) :
    (withVariant s v).interrupt vec b = withVariant (s.interrupt vec b) v := by
  simp only [State.interrupt, push_withVariant]
  rfl

theorem ea_withVariant (m : MemOperand) : m.ea (withVariant s v) = m.ea s := by
  cases m <;> rfl

theorem resolve_withVariant (m : MemOperand) : (withVariant s v).resolve m = withVariant (s.resolve m) v := by
  cases m <;> rfl

theorem noteSource_withVariant (src : Source) :
    (withVariant s v).noteSource src = withVariant (s.noteSource src) v := by
  cases src with
  | imm b => rfl
  | mem m =>
    rw [State.noteSource, resolve_withVariant, ea_withVariant]
    rfl

theorem value_withVariant (src : Source) : src.value (withVariant s v) = src.value s := by
  cases src with
  | imm b => rfl
  | mem m => exact congrArg s.peek (ea_withVariant s v m)

theorem store_withVariant (m : MemOperand) (b : Byte) :
    (withVariant s v).store m b = withVariant (s.store m b) v := by
  rw [State.store, resolve_withVariant, ea_withVariant, write_withVariant, State.store]

theorem modify_withVariant (pl : Place) (f : Byte → Byte) (g : Status → Byte → Status) :
    (withVariant s v).modify pl f g = withVariant (s.modify pl f g) v := by
  cases pl with
  | acc => rfl
  | mem m =>
    simp only [State.modify, noteSource_withVariant, ea_withVariant, write_withVariant]
    rfl

/-- The default of `decimalFlags` does not look at VARIANT either (R176, R178). -/
theorem decimalNVZ_withVariant (hrule : s.cfg.decimalFlags = .byRule) (isSub : Bool) (a m : Byte) (c : Bool)
    (r : Byte) : decimalNVZ (withVariant s v).cfg isSub a m c r = decimalNVZ s.cfg isSub a m c r := by
  simp [decimalNVZ, withVariant, hrule]

theorem adc_withVariant (hrule : s.cfg.decimalFlags = .byRule) (src : Source) :
    (withVariant s v).adc src = withVariant (s.adc src) v := by
  simp only [State.adc, noteSource_withVariant, value_withVariant, decimalNVZ_withVariant s v hrule]
  change (if s.p.d then _ else _) = _
  split <;> rfl

theorem sbc_withVariant (hrule : s.cfg.decimalFlags = .byRule) (src : Source) :
    (withVariant s v).sbc src = withVariant (s.sbc src) v := by
  simp only [State.sbc, noteSource_withVariant, value_withVariant, decimalNVZ_withVariant s v hrule]
  change (if s.p.d then _ else _) = _
  split <;> rfl

end

/-! ### JMP Indirect looks at it where the pointer ends a page (R123) -/

theorem indirectHigh_eq_add_one (s : State) {w : Word} (h : lowByte w ≠ 0xFF) : s.indirectHigh w = w + 1 := by
  cases hv : s.cfg.variant with
  | cmos65c02 => exact indirectHigh_of_cmos w hv
  | nmos6502 =>
    have hlow : w.toNat % 256 ≠ 255 := fun hw => h (by
      apply BitVec.eq_of_toNat_eq
      rw [lowByte_eq_ofNat, BitVec.toNat_ofNat]
      exact hw)
    rw [indirectHigh_of_nmos w hv]
    apply BitVec.eq_of_toNat_eq
    simp only [BitVec.toNat_add, BitVec.toNat_ofNat, BitVec.ofNat_eq_ofNat]
    omega

theorem jumpIndirect_withVariant (s : State) (v : Variant) {w : Word} (h : lowByte w ≠ 0xFF) :
    (withVariant s v).jumpIndirect w = withVariant (s.jumpIndirect w) v := by
  rw [State.jumpIndirect, State.jumpIndirect, indirectHigh_eq_add_one s h, indirectHigh_eq_add_one _ h]
  rfl

/-! ### Outcomes that differ in the variant and the cycles alone -/

/-- Where `o` has a next state, `o'` has that state too, but in variant `v` and with cycles of its own. -/
def SameInVariant (v : Variant) (o o' : Out) : Prop :=
  ∀ t, o = .next t → ∃ u, o' = .next u ∧ { withVariant t v with cycles := u.cycles } = u

theorem sameInVariant_complete {v : Variant} {i : Instr} {extra extra' : Nat} {s s' t t' : State}
    (h : t' = withVariant t v) : SameInVariant v (complete i extra s t) (complete i extra' s' t') := by
  intro t₁ ht₁
  obtain rfl := Host.Outcome.next.inj ht₁
  exact ⟨_, rfl, by rw [h]; rfl⟩

section
variable (s : State) (v : Variant)

theorem sameInVariant_branch (i : Instr) (taken : Bool) (d : Byte) :
    SameInVariant v (State.branch i taken d s) (State.branch i taken d (withVariant s v)) := by
  cases taken <;> exact sameInVariant_complete rfl

theorem sameInVariant_bitBranch (i : Instr) (z : Byte) (n : Nat) (want : Bool) (d : Byte) :
    SameInVariant v (State.bitBranch i z n want d s) (State.bitBranch i z n want d (withVariant s v)) := by
  have hpeek : (withVariant s v).peek (zext z) = s.peek (zext z) := rfl
  unfold State.bitBranch
  rw [hpeek]
  split <;> exact sameInVariant_complete rfl

/-- By the shared operation that each instruction calls; those that no lemma is needed for touch registers and the
trace alone. -/
theorem sameInVariant_exec {i : Instr} (hnmos : i.legalIn .nmos6502 = true) (hcmos : i.legalIn .cmos65c02 = true)
    (hrule : s.cfg.decimalFlags = .byRule) (hptr : ∀ w, i = .jmpInd w → lowByte w ≠ 0xFF) :
    SameInVariant v (exec i s) (exec i (withVariant s v)) := by
  cases i with
  | illNmos _ => nomatch hcmos
  | illCmos _ => nomatch hnmos
  | jmpInd w => exact sameInVariant_complete (jumpIndirect_withVariant s v (hptr w rfl))
  | adcXInd _ | adcZp _ | adcImm _ | adcAbs _ | adcIndY _ | adcZpInd _ | adcZpX _ | adcAbsY _ | adcAbsX _ =>
    exact sameInVariant_complete (adc_withVariant s v hrule _)
  | sbcXInd _ | sbcZp _ | sbcImm _ | sbcAbs _ | sbcIndY _ | sbcZpInd _ | sbcZpX _ | sbcAbsY _ | sbcAbsX _ =>
    exact sameInVariant_complete (sbc_withVariant s v hrule _)
  | staXInd _ | staZp _ | staAbs _ | staIndY _ | staZpInd _ | staZpX _ | staAbsY _ | staAbsX _ | stxZp _
  | stxAbs _ | stxZpY _ | styZp _ | styAbs _ | styZpX _ | stzZp _ | stzZpX _ | stzAbs _ | stzAbsX _ =>
    exact sameInVariant_complete (store_withVariant s v _ _)
  | incAcc | incZp _ | incAbs _ | incZpX _ | incAbsX _ | decAcc | decZp _ | decAbs _ | decZpX _ | decAbsX _
  | aslZp _ | aslAcc | aslAbs _ | aslZpX _ | aslAbsX _ | lsrZp _ | lsrAcc | lsrAbs _ | lsrZpX _ | lsrAbsX _
  | rolZp _ | rolAcc | rolAbs _ | rolZpX _ | rolAbsX _ | rorZp _ | rorAcc | rorAbs _ | rorZpX _ | rorAbsX _
  | tsbZp _ | tsbAbs _ | trbZp _ | trbAbs _ | rmb0 _ | rmb1 _ | rmb2 _ | rmb3 _ | rmb4 _ | rmb5 _ | rmb6 _
  | rmb7 _ | smb0 _ | smb1 _ | smb2 _ | smb3 _ | smb4 _ | smb5 _ | smb6 _ | smb7 _ =>
    exact sameInVariant_complete (modify_withVariant s v _ _ _)
  | bpl _ | bmi _ | bvc _ | bvs _ | bcc _ | bcs _ | bne _ | beq _ => exact sameInVariant_branch s v _ _ _
  | bbr0 _ _ | bbr1 _ _ | bbr2 _ _ | bbr3 _ _ | bbr4 _ _ | bbr5 _ _ | bbr6 _ _ | bbr7 _ _ | bbs0 _ _
  | bbs1 _ _ | bbs2 _ _ | bbs3 _ _ | bbs4 _ _ | bbs5 _ _ | bbs6 _ _ | bbs7 _ _ =>
    exact sameInVariant_bitBranch s v _ _ _ _ _
  | pha | php | phx | phy => exact sameInVariant_complete (push_withVariant s v _)
  | jsr _ => exact sameInVariant_complete (callSubroutine_withVariant s v _)
  | brk => exact sameInVariant_complete (interrupt_withVariant (s.withPc (s.pc + 1)) v irqVector true)
  | _ => exact sameInVariant_complete rfl

end

end Sys2Proof.Claims

namespace Sys2Proof.Proofs

open Sys2Proof.Machine Sys2Proof.Claims

/-! ### The statement -/

/-- Settles O60: a byte legal on NMOS6502 has one row for both variants; `sameInVariant_exec` from the NMOS6502
state to the CMOS65C02 one. -/
theorem variantsDifferOnlyWhereStated : Obligations.VariantsDifferOnlyWhereStated := by
  refine ⟨fun op b1 b2 hop => ?decode, fun i s t hnmos hcmos hrule hptr hexec => ?exec⟩
  case decode =>
    cases hs : decodeShared op b1 b2 with
    | some i => rw [decodeBytes_of_shared _ hs, decodeBytes_of_shared _ hs]
    | none =>
      have hillegal : nmosIllegal.contains op = true := by rw [← isNone_decodeShared op b1 b2, hs]; rfl
      exact absurd (List.contains_iff_mem.mp hillegal) hop
  case exec =>
    exact sameInVariant_exec (withVariant s .nmos6502) .cmos65c02 hnmos hcmos hrule hptr t hexec

end Sys2Proof.Proofs
end
